-- ==== Sys2Proof/Word.lean ====
section
/-! DEFINITION. The word types of the SLC (spec/00_scope.md R9, spec/20_memory.md R63, R71). -/

namespace Sys2Proof

/-- One byte. -/
abbrev Byte := BitVec 8

/-- A host register, a CMD word, an event word: 32 bits (spec/30_encoding.md R80). -/
abbrev Word := BitVec 32

/-- The 64-bit view `W` of an 8-byte wire frame: `W[63:56]` is byte 0 and `W[7:0]` byte 7
(spec/20_memory.md R71). -/
abbrev FrameWord := BitVec 64

/-- An op-state bitmask (spec/10_state.md R26, R38). -/
abbrev OpState := BitVec 5

/-- Byte `i` of a frame, `b[i] = W[63-8i : 56-8i]` (spec/20_memory.md R71, spec/40_frame_codec.md R113). -/
def frameByte (w : FrameWord) (i : Nat) : Byte := w.extractLsb' (56 - 8 * i) 8

/-- The eight bytes `b[0..7]` as the word `W` (spec/20_memory.md R71). -/
def frameOfBytes (b0 b1 b2 b3 b4 b5 b6 b7 : Byte) : FrameWord :=
  b0 ++ b1 ++ b2 ++ b3 ++ b4 ++ b5 ++ b6 ++ b7

end Sys2Proof
end

