-- ==== Sys2Proof/Syntax.lean ====
section
/-! DEFINITION. The host commands as syntax: the fields of a CMD word (spec/30_encoding.md R91) and one constructor
per row of spec/opcode_table.json. -/

namespace Sys2Proof

/-- The fields of a CMD word beside OPC (spec/30_encoding.md R91, R94). -/
structure CmdFields where
  /-- SAT, bits [15:8]. -/
  sat : BitVec 8
  /-- CH, bits [19:16]. -/
  ch : BitVec 4
  /-- KIND, bits [23:20]. -/
  kind : BitVec 4
  /-- SEL, bit [24]. -/
  sel : Bool
  /-- RST, bit [25]. -/
  rst : Bool
  /-- The reserved bits [31:26]. -/
  rsv : BitVec 6
deriving DecidableEq, Repr

/-- A host command: one constructor per row of the opcode table (spec/30_encoding.md R92). Every command carries all
the fields of its word, since R93 and R250 give a word with a non-zero unused field an outcome of its own. The five
rows of illegal opcodes (R267) also carry the opcode bits that their row leaves open. -/
inductive Instr where
  /-- OPC 0x00. -/
  | nop (f : CmdFields)
  /-- OPC 0x01. -/
  | setactval (f : CmdFields)
  /-- OPC 0x02. -/
  | setactmode (f : CmdFields)
  /-- OPC 0x03. -/
  | setsaten (f : CmdFields)
  /-- OPC 0x04. -/
  | linkenable (f : CmdFields)
  /-- OPC 0x05. -/
  | linkdisable (f : CmdFields)
  /-- OPC 0x06. -/
  | satenable (f : CmdFields)
  /-- OPC 0x07. -/
  | satdisable (f : CmdFields)
  /-- OPC 0x08. -/
  | selftest (f : CmdFields)
  /-- OPC 0x09. -/
  | setlinkthres (f : CmdFields)
  /-- OPC 0x0A. -/
  | setsatthres (f : CmdFields)
  /-- OPC 0x0B. -/
  | rdlinkcnt (f : CmdFields)
  /-- OPC 0x0C. -/
  | rdsatcnt (f : CmdFields)
  /-- OPC 0x0D. -/
  | rdsatstate (f : CmdFields)
  /-- OPC 0x0E. -/
  | consumestatus (f : CmdFields)
  /-- OPC 0x0F. -/
  | illegal0f (f : CmdFields)
  /-- OPC 0x10 to 0x1F; `lo` is OPC[3:0]. -/
  | illegal1x (lo : BitVec 4) (f : CmdFields)
  /-- OPC 0x20 to 0x3F; `lo` is OPC[4:0]. -/
  | illegal2x (lo : BitVec 5) (f : CmdFields)
  /-- OPC 0x40 to 0x7F; `lo` is OPC[5:0]. -/
  | illegal4x (lo : BitVec 6) (f : CmdFields)
  /-- OPC 0x80 to 0xFF; `lo` is OPC[6:0]. -/
  | illegal8x (lo : BitVec 7) (f : CmdFields)
deriving DecidableEq, Repr

/-- The fields of a command's word. -/
def Instr.fields : Instr → CmdFields
  | .nop f | .setactval f | .setactmode f | .setsaten f | .linkenable f | .linkdisable f | .satenable f
  | .satdisable f | .selftest f | .setlinkthres f | .setsatthres f | .rdlinkcnt f | .rdsatcnt f | .rdsatstate f
  | .consumestatus f | .illegal0f f | .illegal1x _ f | .illegal2x _ f | .illegal4x _ f | .illegal8x _ f => f

end Sys2Proof
end

