-- ==== Sys2Proof/Decode.lean ====
section
/-! DEFINITION. Decoding a CMD word (spec/30_encoding.md R91, R92, R99), and the encoder. Every 32-bit word is some
command (R98, R267), so decoding a word is total; only a list of bytes that is not one word is rejected. -/

namespace Sys2Proof

/-- The fields of a CMD word beside OPC (spec/30_encoding.md R91). -/
def cmdFieldsOf (w : Word) : CmdFields where
  sat := w.extractLsb' 8 8
  ch := w.extractLsb' 16 4
  kind := w.extractLsb' 20 4
  sel := w.getLsbD 24
  rst := w.getLsbD 25
  rsv := w.extractLsb' 26 6

/-- The command of opcode `opc` with the given fields (spec/30_encoding.md R92). -/
def instrOfOpcode (opc : BitVec 8) (f : CmdFields) : Instr :=
  match opc.toNat with
  | 0x00 => .nop f
  | 0x01 => .setactval f
  | 0x02 => .setactmode f
  | 0x03 => .setsaten f
  | 0x04 => .linkenable f
  | 0x05 => .linkdisable f
  | 0x06 => .satenable f
  | 0x07 => .satdisable f
  | 0x08 => .selftest f
  | 0x09 => .setlinkthres f
  | 0x0A => .setsatthres f
  | 0x0B => .rdlinkcnt f
  | 0x0C => .rdsatcnt f
  | 0x0D => .rdsatstate f
  | 0x0E => .consumestatus f
  | 0x0F => .illegal0f f
  | n =>
    if n < 0x20 then .illegal1x (opc.extractLsb' 0 4) f
    else if n < 0x40 then .illegal2x (opc.extractLsb' 0 5) f
    else if n < 0x80 then .illegal4x (opc.extractLsb' 0 6) f
    else .illegal8x (opc.extractLsb' 0 7) f

/-- The command a CMD word encodes (spec/30_encoding.md R91, R92, R99). -/
def decodeWord (w : Word) : Instr := instrOfOpcode (w.extractLsb' 0 8) (cmdFieldsOf w)

/-- Why a list of bytes is no CMD word. -/
inductive DecodeRejection where
  /-- A CMD word is always 32 bits, four bytes (spec/30_encoding.md R80, R99). -/
  | notFourBytes
deriving DecidableEq, Repr

/-- The bytes of a word, byte lane 0 first (spec/20_memory.md R63). -/
def wordBytes (w : Word) : List Byte :=
  [w.extractLsb' 0 8, w.extractLsb' 8 8, w.extractLsb' 16 8, w.extractLsb' 24 8]

/-- The command that a list of bytes, lane 0 first, encodes; any list but one of four bytes is rejected. -/
def decodeBytes : List Byte → Except DecodeRejection Instr
  | [b0, b1, b2, b3] => .ok (decodeWord (b3 ++ b2 ++ b1 ++ b0))
  | _ => .error .notFourBytes

/-- The opcode of a command (spec/30_encoding.md R92). -/
def Instr.opcode : Instr → BitVec 8
  | .nop _ => 0x00#8
  | .setactval _ => 0x01#8
  | .setactmode _ => 0x02#8
  | .setsaten _ => 0x03#8
  | .linkenable _ => 0x04#8
  | .linkdisable _ => 0x05#8
  | .satenable _ => 0x06#8
  | .satdisable _ => 0x07#8
  | .selftest _ => 0x08#8
  | .setlinkthres _ => 0x09#8
  | .setsatthres _ => 0x0A#8
  | .rdlinkcnt _ => 0x0B#8
  | .rdsatcnt _ => 0x0C#8
  | .rdsatstate _ => 0x0D#8
  | .consumestatus _ => 0x0E#8
  | .illegal0f _ => 0x0F#8
  | .illegal1x lo _ => 0x1#4 ++ lo
  | .illegal2x lo _ => 0x1#3 ++ lo
  | .illegal4x lo _ => 0x1#2 ++ lo
  | .illegal8x lo _ => 0x1#1 ++ lo

/-- The CMD word of an opcode and its fields (spec/30_encoding.md R91). -/
def cmdWord (opc : BitVec 8) (f : CmdFields) : Word :=
  f.rsv ++ BitVec.ofBool f.rst ++ BitVec.ofBool f.sel ++ f.kind ++ f.ch ++ f.sat ++ opc

/-- The CMD word of a command. -/
def encode (i : Instr) : Word := cmdWord i.opcode i.fields

/-- The command the decoder reads from the `nbits` low bits of `w`, every higher bit 0: the word laid out as bytes,
lane 0 first, and decoded. `none` where those bits do not fit in one CMD word. -/
def decodeTableWord (nbits w : Nat) : Option Instr :=
  let v := w % 2 ^ nbits
  if v < 2 ^ 32 then (decodeBytes (wordBytes (BitVec.ofNat 32 v))).toOption else none

end Sys2Proof
end

