-- ==== Sys2Proof/Config.lean ====
section
/-! DEFINITION. The implementation parameters of spec/00_scope.md R6 with the legality check of R7, the inputs the
environment gives the machine (the BUS, CLOCK and HOST agents of R8), and the free values. -/

namespace Sys2Proof

/-- A pulse: a mark (level and ticks) and the space after it (level and ticks) (spec/30_encoding.md R88, R89).
A level is `true` for 1. -/
structure Pulse where
  markLevel : Bool
  markTicks : Nat
  spaceLevel : Bool
  spaceTicks : Nat
deriving DecidableEq, Repr, Inhabited

/-- What the receive endpoint returns: a finite list of pulses, or `none` for NONE (spec/30_encoding.md R89). -/
abbrev RxBurst := Option (List Pulse)

/-- A host access to the register space, `MemRead(addr, width)` or `MemWrite(addr, width, v)`
(spec/20_memory.md R61, R64). The value of a write that is not 4 bytes wide is of no account: R64 refuses it. -/
inductive Access where
  /-- `MemRead(addr, width)`. -/
  | read (addr width : Nat)
  /-- `MemWrite(addr, width, value)`. -/
  | write (addr width : Nat) (value : Word)
deriving DecidableEq, Repr, Inhabited

/-- What happens next: which agent takes a step (spec/00_scope.md R8, spec/20_memory.md R74), or the reset input
is asserted and released (spec/70_reset_and_hazards.md R301). -/
inductive Input where
  /-- The SCAN agent takes one micro-step. -/
  | scan
  /-- The HOST agent makes one register access. -/
  | host (access : Access)
  /-- The reset input is asserted and then released. -/
  | reset
deriving DecidableEq, Repr, Inhabited

namespace Config

/-- The reading of the CRC text (spec/00_scope.md R6, CRC_FORM). -/
inductive CrcForm where
  | direct
  | shiftIn
deriving DecidableEq, Repr, Inhabited

/-- The parameters of spec/00_scope.md R6. `evqDepth = none` is the unbounded queue. `frameLayout` lists, for the
56 frame bits that the default layout places at `W[8], W[9], ..., W[63]`, the bit of `W` where each stands. -/
structure Params where
  maxSats : Nat
  scanIntervalMs : Nat
  errThresHigh0 : Nat
  errThresLow0 : Nat
  linkAddr : Nat
  nDeact : Nat
  settleCycles : Nat
  selftestPhaseCycles : Nat
  tReestablishMs : Nat
  evqDepth : Option Nat
  frameLayout : List Nat
  crcForm : CrcForm
  routeDeactAsTest : Bool
  tickNs : Nat
  t0h : Nat
  t0l : Nat
  t1h : Nat
  t1l : Nat
  b0Min : Nat
  b0Max : Nat
  b1Min : Nat
  b1Max : Nat
  tpMin : Nat
  tpMax : Nat
  idleLevel : Bool
  tGap : Nat
  rxTimeoutMs : Nat
deriving DecidableEq, Repr, Inhabited

/-- NSLOT (spec/00_scope.md R6, spec/10_state.md R28). -/
def Params.nSlot (p : Params) : Nat := p.maxSats + 1

/-- The default FRAME_LAYOUT: list order, MSB first (spec/30_encoding.md R83). -/
def defaultLayout : List Nat := (List.range 56).map (· + 8)

/-- A FRAME_LAYOUT is legal if it places the 56 bits bijectively in `W[63:8]` (spec/00_scope.md R6). -/
def layoutLegal (l : List Nat) : Bool :=
  l.length == 56 && l.all (fun p => decide (8 ≤ p) && decide (p < 64)) && decide l.Nodup

/-- The ranges of the counts and times of spec/00_scope.md R6. -/
def Params.countsLegal (p : Params) : Bool :=
  decide (1 ≤ p.maxSats) && decide (p.maxSats ≤ 254)
    && decide (1 ≤ p.scanIntervalMs) && decide (p.scanIntervalMs ≤ 255)
    && decide (p.errThresHigh0 ≤ 65535) && decide (p.errThresLow0 < p.errThresHigh0)
    && decide (p.linkAddr ≤ 255)
    && decide (1 ≤ p.nDeact) && decide (p.nDeact ≤ 255)
    && decide (1 ≤ p.settleCycles) && decide (p.settleCycles ≤ 255)
    && decide (1 ≤ p.selftestPhaseCycles) && decide (p.selftestPhaseCycles ≤ 65535)
    && decide (1 ≤ p.tReestablishMs) && decide (p.tReestablishMs ≤ 4294967295)
    && (match p.evqDepth with | none => true | some d => decide (1 ≤ d))

/-- The ranges of the pulse parameters of spec/00_scope.md R6, with the disjoint bands of R7. -/
def Params.pulsesLegal (p : Params) : Bool :=
  decide (1 ≤ p.tickNs) && decide (1 ≤ p.t0h) && decide (1 ≤ p.t0l) && decide (1 ≤ p.t1h) && decide (1 ≤ p.t1l)
    && decide (p.b0Min ≤ p.b0Max) && decide (p.b1Min ≤ p.b1Max)
    && (decide (p.b0Max < p.b1Min) || decide (p.b1Max < p.b0Min))
    && decide (p.tpMin ≤ p.tpMax) && decide (1 ≤ p.rxTimeoutMs)

/-- A legal configuration (spec/00_scope.md R7). -/
def Params.legal (p : Params) : Bool :=
  p.countsLegal && p.pulsesLegal && layoutLegal p.frameLayout

/-- The configuration of the programs of spec/95_test_vectors.md (sections 2.3 and 3.1), with EVQ_DEPTH 16 and
the values the programs leave open set to 1 or 0: an example, used where some legal configuration is needed. -/
def exampleParams : Params where
  maxSats := 4
  scanIntervalMs := 5
  errThresHigh0 := 20
  errThresLow0 := 2
  linkAddr := 0
  nDeact := 2
  settleCycles := 1
  selftestPhaseCycles := 50
  tReestablishMs := 1000
  evqDepth := some 16
  frameLayout := defaultLayout
  crcForm := .direct
  routeDeactAsTest := false
  tickNs := 1
  t0h := 3
  t0l := 7
  t1h := 7
  t1l := 3
  b0Min := 2
  b0Max := 4
  b1Min := 6
  b1Max := 8
  tpMin := 9
  tpMax := 12
  idleLevel := false
  tGap := 0
  rxTimeoutMs := 1

/-- FREE VALUE: the parameters of the implementation, before the check of R7 (log 3). -/
opaque rawParams : Params

/-- The configuration the machine is reset with: any legal one. R7 refuses an illegal configuration, so where
`rawParams` is illegal the example stands in for it (log 3). -/
def params : Params := if rawParams.legal then rawParams else exampleParams

/-- FREE VALUE: the first `now()` read after reset release (spec/10_state.md R50; log 4). -/
opaque resetTime : Nat

/-- FREE VALUE: by how many milliseconds the CLOCK agent's next answer exceeds its last one
(spec/00_scope.md R8; log 1). -/
opaque clockAdvance : Nat → Nat

/-- FREE VALUE: the BUS agent's next answer (spec/41_bit_transport.md R133; log 1). -/
opaque busAnswer : Nat → RxBurst

/-- FREE VALUE: which agent steps next, and what the HOST accesses (spec/20_memory.md R74; log 1). -/
opaque nextInput : Nat → Input

end Config

end Sys2Proof
end

