-- ==== Sys2Proof/Machine/OpBits.lean ====
section
/-! DEFINITION. The op-state masks (spec/30_encoding.md R100). -/

namespace Sys2Proof.Machine

/-- INIT, bit 0. -/
def opInit : OpState := 0x01#5

/-- DISABLED, bit 1. -/
def opDisabled : OpState := 0x02#5

/-- CONTROL_BLOCKED, bit 2. -/
def opControlBlocked : OpState := 0x04#5

/-- ERROR_SECOND, bit 3. -/
def opErrorSecond : OpState := 0x08#5

/-- FAIL, bit 4. -/
def opFail : OpState := 0x10#5

/-- Some bit of `mask` is set in `op`. -/
def hasBit (op mask : OpState) : Bool := decide (op &&& mask ≠ 0)

end Sys2Proof.Machine
end

