-- ==== Sys2Proof/Machine/State.lean ====
section
/-! DEFINITION. The state of the SLC (spec/10_state.md) and its value at reset (spec/70_reset_and_hazards.md R300).
Every field names the piece of state `S.<name>` it holds. The last groups are the model's own: the parameters, what
stands on the line, what the host last read, and the environment's choices (logs 1, 3, 7). -/

namespace Sys2Proof.Machine

/-- The scan micro-step the SCAN agent takes next (spec/10_state.md R22, spec/42_scan_engine.md R150). -/
inductive ScanPhase where
  | wait | encode | txrx | process | budget | seq | timing
deriving DecidableEq, Repr

/-- An adm-state (spec/10_state.md R25, R37). -/
inductive Adm where
  | enable | disable
deriving DecidableEq, Repr

/-- A test mode (spec/10_state.md R33): the 2-bit state, with the 8-bit count where it has one. -/
inductive TestMode where
  | inactive
  | active
  | deactivating (n : BitVec 8)
deriving DecidableEq, Repr

/-- The test kinds SRV, CLI and WD (spec/10_state.md R30). -/
inductive TestKind where
  | srv | cli | wd
deriving DecidableEq, Repr

/-- One value for each test kind. -/
structure PerTest (α : Type) where
  srv : α
  cli : α
  wd : α
deriving DecidableEq, Repr

/-- The discovery sequencer's states (spec/10_state.md R43). -/
inductive DiscState where
  | idle | probe | clear
deriving DecidableEq, Repr

/-- The phases of a self-test (spec/10_state.md R44). -/
inductive StPhase where
  | idle | srv | cli | wd
deriving DecidableEq, Repr

/-- The link counter kinds (spec/10_state.md R40). -/
inductive LinkKind where
  | sym | size | rxcrc | remcrc | wd | timing
deriving DecidableEq, Repr

/-- The satellite counter kinds (spec/10_state.md R41). -/
inductive SatKind where
  | rxcrc | remcrc | wd
deriving DecidableEq, Repr

/-- The test-only counter kinds TREMCRC, TRXCRC and TWD (spec/10_state.md R41). -/
inductive TestCounterKind where
  | tremcrc | trxcrc | twd
deriving DecidableEq, Repr

/-- One counter for each link kind: `S.lcum` or `S.lsec` (spec/10_state.md R40). -/
structure LinkCounters where
  sym : BitVec 32
  size : BitVec 32
  rxcrc : BitVec 32
  remcrc : BitVec 32
  wd : BitVec 32
  timing : BitVec 32
deriving DecidableEq, Repr

/-- One counter for each satellite kind: `S.scum[a]` or `S.ssec[a]` (spec/10_state.md R41). -/
structure SatCounters where
  rxcrc : BitVec 32
  remcrc : BitVec 32
  wd : BitVec 32
deriving DecidableEq, Repr

/-- The test-only counters `S.stest[a]` (spec/10_state.md R41). -/
structure TestCounters where
  tremcrc : BitVec 32
  trxcrc : BitVec 32
  twd : BitVec 32
deriving DecidableEq, Repr

/-- All link counters 0. -/
def LinkCounters.zero : LinkCounters := ⟨0, 0, 0, 0, 0, 0⟩

/-- All satellite counters 0. -/
def SatCounters.zero : SatCounters := ⟨0, 0, 0⟩

/-- All test-only counters 0. -/
def TestCounters.zero : TestCounters := ⟨0, 0, 0⟩

/-- `S.status[s]` (spec/10_state.md R35). -/
structure Status where
  watchdogError : Bool
  remoteCrcError : Bool
  rxCrcError : Bool
  rxSymbolError : Bool
  rxDataSizeError : Bool
  dirty : Bool
deriving DecidableEq, Repr

/-- All six flags 0. -/
def Status.zero : Status := ⟨false, false, false, false, false, false⟩

/-- The state of slot `s` (spec/10_state.md R28 to R35). -/
structure Slot where
  /-- `S.txActVal[s]`. -/
  txActVal : Vector Byte 4
  /-- `S.txActMode[s]`. -/
  txActMode : Vector (BitVec 3) 4
  /-- `S.txEnableReq[s]`. -/
  txEnableReq : Bool
  /-- `S.txReq[s]`. -/
  txReq : PerTest Bool
  /-- `S.txDirty[s]`. -/
  txDirty : Bool
  /-- `S.txBytes[s]`, in the 64-bit view of R71. -/
  txBytes : FrameWord
  /-- `S.tm[s]`. -/
  tm : PerTest TestMode
  /-- `S.rxBytes[s]`, in the 64-bit view of R71. -/
  rxBytes : FrameWord
  /-- `S.status[s]`. -/
  status : Status
deriving DecidableEq, Repr

/-- A slot after reset (spec/70_reset_and_hazards.md R300). -/
def Slot.reset : Slot where
  txActVal := Vector.replicate 4 0
  txActMode := Vector.replicate 4 0
  txEnableReq := false
  txReq := ⟨false, false, false⟩
  txDirty := true
  txBytes := 0
  tm := ⟨.inactive, .inactive, .inactive⟩
  rxBytes := 0
  status := Status.zero

/-- The state of satellite `a` (spec/10_state.md R36 to R41, R44). -/
structure Sat where
  /-- `S.satExists[a]`. -/
  present : Bool
  /-- `S.satAdm[a]`. -/
  adm : Adm
  /-- `S.satOp[a]`. -/
  op : OpState
  /-- `S.satThresHigh[a]`. -/
  thresHigh : BitVec 16
  /-- `S.satThresLow[a]`. -/
  thresLow : BitVec 16
  /-- `S.scum[a]`. -/
  cum : SatCounters
  /-- `S.ssec[a]`. -/
  sec : SatCounters
  /-- `S.stest[a]`. -/
  test : TestCounters
  /-- `S.stPhase[a]`. -/
  stPhase : StPhase
  /-- `S.stCnt[a]`. -/
  stCnt : BitVec 16
  /-- `S.stImplicit[a]`. -/
  stImplicit : Bool
deriving DecidableEq, Repr

/-- A satellite after reset (spec/70_reset_and_hazards.md R300), with the configured threshold pair. -/
def Sat.reset (thresHigh thresLow : BitVec 16) : Sat where
  present := false
  adm := .disable
  op := 0x06#5
  thresHigh := thresHigh
  thresLow := thresLow
  cum := SatCounters.zero
  sec := SatCounters.zero
  test := TestCounters.zero
  stPhase := .idle
  stCnt := 0
  stImplicit := false

/-- The configuration registers (spec/10_state.md R23). -/
structure ConfRegs where
  /-- `S.cfgScanInterval`. -/
  scanInterval : BitVec 8
  /-- `S.cfgMaxSats`. -/
  maxSats : BitVec 8
  /-- `S.cfgLinkAddr`. -/
  linkAddr : BitVec 8
deriving DecidableEq, Repr

/-- The Link's state (spec/10_state.md R24 to R27, R40). -/
structure LinkRegs where
  /-- `S.thresHigh`. -/
  thresHigh : BitVec 16
  /-- `S.thresLow`. -/
  thresLow : BitVec 16
  /-- `S.linkAdm`. -/
  adm : Adm
  /-- `S.linkOp`. -/
  op : OpState
  /-- `S.noOfSats`. -/
  noOfSats : BitVec 8
  /-- `S.lcum`. -/
  cum : LinkCounters
  /-- `S.lsec`. -/
  sec : LinkCounters
deriving DecidableEq, Repr

/-- The discovery sequencer's state (spec/10_state.md R43). -/
structure DiscRegs where
  /-- `S.discState`. -/
  state : DiscState
  /-- `S.discCnt`. -/
  cnt : BitVec 16
  /-- `S.discResult`. -/
  result : BitVec 8
  /-- `S.discPending`. -/
  pending : Bool
deriving DecidableEq, Repr

/-- The re-establishment timer (spec/10_state.md R45). -/
structure ReestRegs where
  /-- `S.reestArmed`. -/
  armed : Bool
  /-- `S.reestDeadline`, in milliseconds. -/
  deadline : Nat
deriving DecidableEq, Repr

/-- The scan cycle's working state (spec/10_state.md R46, R47). -/
structure CycleRegs where
  /-- `S.cycSym`. -/
  sym : Bool
  /-- `S.cycSize`. -/
  size : Bool
  /-- `S.rxBuf`. -/
  rxBuf : List Bool
deriving DecidableEq, Repr

/-- The command interface (spec/10_state.md R48). -/
structure HostRegs where
  /-- `S.arg`. -/
  arg : Word
  /-- `S.result`. -/
  result : Byte
  /-- `S.rdata`. -/
  rdata : Word
deriving DecidableEq, Repr

/-- The time bases (spec/10_state.md R50) and the time read at BUDGET, which SEQ of the same cycle reads
(spec/44_state_machine.md R221; log 6). All in milliseconds. -/
structure TimeRegs where
  /-- `S.periodBase`. -/
  periodBase : Nat
  /-- `S.secBase`. -/
  secBase : Nat
  /-- `t5` of the current cycle. -/
  t5 : Nat
deriving DecidableEq, Repr

/-- The transmit line: its level between bursts (spec/41_bit_transport.md R131) and the pulses of the last TXRX
(spec/42_scan_engine.md R154; the model's own, log 7). -/
structure LineRegs where
  level : Bool
  txBurst : List Pulse
deriving DecidableEq, Repr

/-- The environment's choices (the model's own, log 1): the CLOCK agent's last answer, and the lists of choices
already made. Where a list is empty a free value of Config, applied to the counter `draws`, is the choice. -/
structure Env where
  clock : Nat
  agenda : List Input
  clockIn : List Nat
  busIn : List RxBurst
  draws : Nat
deriving DecidableEq, Repr

/-- The state of the machine (spec/10_state.md). -/
structure State where
  /-- The parameters of spec/00_scope.md R6: no step writes them (log 3). -/
  cfg : Config.Params
  /-- `S.scanPhase`. -/
  scanPhase : ScanPhase
  conf : ConfRegs
  link : LinkRegs
  /-- The NSLOT frame slots. -/
  slots : List Slot
  /-- The MAX_SATS satellites. -/
  sats : List Sat
  disc : DiscRegs
  reest : ReestRegs
  cyc : CycleRegs
  host : HostRegs
  /-- `S.evq`, oldest event first (spec/10_state.md R49). -/
  evq : List Word
  /-- `S.evOvf`. -/
  evOvf : Bool
  time : TimeRegs
  line : LineRegs
  /-- What the last `MemRead` returned to the HOST agent (spec/20_memory.md R61; the model's own, log 7). -/
  readValue : Option Word
  env : Env
deriving DecidableEq, Repr

/-- Why the machine would stop with a fault. The SLC never traps and has no halted or fatal state
(spec/44_state_machine.md R227, spec/60_exceptions.md R280, R291), so there is no reason: the type is empty. -/
inductive Fault where
deriving DecidableEq, Repr

/-- Why the model gives no next state. -/
inductive Refusal where
  /-- Raised by `exec` for an instruction that has no meaning yet. Safe: the model stops where the hardware goes on. -/
  | notModelled (mnemonic : String)
  /-- Raised by a host access that is not 4 bytes wide, not aligned or outside the window: it "has no meaning: the
  model refuses it" (spec/20_memory.md R64). Safe: nothing follows from a refusal. -/
  | accessNotAdmitted
  /-- Raised by `State.construct` for an illegal configuration (spec/00_scope.md R7). Safe: no such machine exists. -/
  | illegalConfiguration
deriving DecidableEq, Repr

/-- The machine right after reset release with configuration `p`, where the first `now()` read is `t`
(spec/70_reset_and_hazards.md R300). -/
def State.resetWith (p : Config.Params) (t : Nat) : State where
  cfg := p
  scanPhase := .wait
  conf :=
    { scanInterval := BitVec.ofNat 8 p.scanIntervalMs
      maxSats := BitVec.ofNat 8 p.maxSats
      linkAddr := BitVec.ofNat 8 p.linkAddr }
  link :=
    { thresHigh := BitVec.ofNat 16 p.errThresHigh0
      thresLow := BitVec.ofNat 16 p.errThresLow0
      adm := .disable
      op := 0x03#5
      noOfSats := 0
      cum := LinkCounters.zero
      sec := LinkCounters.zero }
  slots := List.replicate p.nSlot Slot.reset
  sats := List.replicate p.maxSats
    (Sat.reset (BitVec.ofNat 16 p.errThresHigh0) (BitVec.ofNat 16 p.errThresLow0))
  disc := { state := .idle, cnt := 0, result := 0, pending := false }
  reest := { armed := false, deadline := 0 }
  cyc := { sym := false, size := false, rxBuf := [] }
  host := { arg := 0, result := 0, rdata := 0 }
  evq := []
  evOvf := false
  time := { periodBase := t, secBase := t, t5 := t }
  line := { level := p.idleLevel, txBurst := [] }
  readValue := none
  env := { clock := t, agenda := [], clockIn := [], busIn := [], draws := 0 }

/-- The machine right after reset, for the implementation's configuration and first `now()` value, both free
(spec/70_reset_and_hazards.md R300, spec/10_state.md R50; logs 3 and 4). -/
def State.reset : State := State.resetWith Config.params Config.resetTime

end Sys2Proof.Machine
end

