-- ==== Sys2Proof/Machine/Flags.lean ====
section
/-! DEFINITION. Flags, counters and the words built of them: the status latch, the saturating counters, result
codes, event words and state words (spec/30_encoding.md R95 to R106, spec/42_scan_engine.md R160 to R163). -/

namespace Sys2Proof.Machine

/-! ## Per-test values -/

/-- The value for test kind `k`. -/
def PerTest.get {α : Type} (x : PerTest α) : TestKind → α
  | .srv => x.srv
  | .cli => x.cli
  | .wd => x.wd

/-- `x` with the value for test kind `k` replaced. -/
def PerTest.set {α : Type} (x : PerTest α) (k : TestKind) (v : α) : PerTest α :=
  match k with
  | .srv => { x with srv := v }
  | .cli => { x with cli := v }
  | .wd => { x with wd := v }

/-- A function applied to the values of all three kinds. -/
def PerTest.map {α β : Type} (g : α → β) (x : PerTest α) : PerTest β := ⟨g x.srv, g x.cli, g x.wd⟩

/-- No test requested. -/
def noRequests : PerTest Bool := ⟨false, false, false⟩

/-- Every test mode INACTIVE. -/
def allInactive : PerTest TestMode := ⟨.inactive, .inactive, .inactive⟩

/-- The 2-bit state of a test mode (spec/10_state.md R33). -/
def TestMode.code : TestMode → BitVec 2
  | .inactive => 0
  | .active => 1
  | .deactivating _ => 2

/-- The once-per-cycle countdown of a test mode (spec/42_scan_engine.md R151). -/
def TestMode.countdown : TestMode → TestMode
  | .deactivating n => if 1 < n.toNat then .deactivating (n - 1) else .inactive
  | m => m

/-- A test mode resolved against its request (spec/42_scan_engine.md R153), with N_DEACT = `nDeact`. -/
def TestMode.resolve (nDeact : Nat) (req : Bool) (m : TestMode) : TestMode :=
  if req then .active
  else
    match m with
    | .active => .deactivating (BitVec.ofNat 8 nDeact)
    | m => m

/-- The mode is ACTIVE. -/
def TestMode.isActive (m : TestMode) : Bool := decide (m = .active)

/-- The mode is DEACTIVATING(n) for some n. -/
def TestMode.isDeactivating : TestMode → Bool
  | .deactivating _ => true
  | _ => false

/-! ## Counters -/

/-- `sat(v + 1)` (spec/42_scan_engine.md R161): counters stop at 0xFFFFFFFF. -/
def satInc (v : BitVec 32) : BitVec 32 := if v = 0xFFFFFFFF#32 then v else v + 1

/-- The counter of kind `k`. -/
def LinkCounters.get (c : LinkCounters) : LinkKind → BitVec 32
  | .sym => c.sym
  | .size => c.size
  | .rxcrc => c.rxcrc
  | .remcrc => c.remcrc
  | .wd => c.wd
  | .timing => c.timing

/-- The counters with that of kind `k` replaced. -/
def LinkCounters.set (c : LinkCounters) (k : LinkKind) (v : BitVec 32) : LinkCounters :=
  match k with
  | .sym => { c with sym := v }
  | .size => { c with size := v }
  | .rxcrc => { c with rxcrc := v }
  | .remcrc => { c with remcrc := v }
  | .wd => { c with wd := v }
  | .timing => { c with timing := v }

/-- One more of kind `k`, saturating. -/
def LinkCounters.inc (c : LinkCounters) (k : LinkKind) : LinkCounters := c.set k (satInc (c.get k))

/-- The sum of the link counters, unbounded (spec/42_scan_engine.md R167, spec/00_scope.md R12). -/
def LinkCounters.sum (c : LinkCounters) : Nat :=
  c.sym.toNat + c.size.toNat + c.rxcrc.toNat + c.remcrc.toNat + c.wd.toNat + c.timing.toNat

/-- The counter of kind `k`. -/
def SatCounters.get (c : SatCounters) : SatKind → BitVec 32
  | .rxcrc => c.rxcrc
  | .remcrc => c.remcrc
  | .wd => c.wd

/-- The counters with that of kind `k` replaced. -/
def SatCounters.set (c : SatCounters) (k : SatKind) (v : BitVec 32) : SatCounters :=
  match k with
  | .rxcrc => { c with rxcrc := v }
  | .remcrc => { c with remcrc := v }
  | .wd => { c with wd := v }

/-- One more of kind `k`, saturating. -/
def SatCounters.inc (c : SatCounters) (k : SatKind) : SatCounters := c.set k (satInc (c.get k))

/-- The sum of the satellite counters, unbounded (spec/42_scan_engine.md R168). -/
def SatCounters.sum (c : SatCounters) : Nat := c.rxcrc.toNat + c.remcrc.toNat + c.wd.toNat

/-- The counter of kind `k`. -/
def TestCounters.get (c : TestCounters) : TestCounterKind → BitVec 32
  | .tremcrc => c.tremcrc
  | .trxcrc => c.trxcrc
  | .twd => c.twd

/-- The counters with that of kind `k` replaced. -/
def TestCounters.set (c : TestCounters) (k : TestCounterKind) (v : BitVec 32) : TestCounters :=
  match k with
  | .tremcrc => { c with tremcrc := v }
  | .trxcrc => { c with trxcrc := v }
  | .twd => { c with twd := v }

/-- One more of kind `k`, saturating. -/
def TestCounters.inc (c : TestCounters) (k : TestCounterKind) : TestCounters := c.set k (satInc (c.get k))

/-- The link kind in which an error of a satellite kind is counted again (spec/42_scan_engine.md R163). -/
def SatKind.toLink : SatKind → LinkKind
  | .rxcrc => .rxcrc
  | .remcrc => .remcrc
  | .wd => .wd

/-- The test-only counter that pairs with a satellite kind (spec/42_scan_engine.md R161). -/
def SatKind.testCounter : SatKind → TestCounterKind
  | .rxcrc => .trxcrc
  | .remcrc => .tremcrc
  | .wd => .twd

/-- The test that explains an error of a satellite kind (spec/42_scan_engine.md R161). -/
def SatKind.testKind : SatKind → TestKind
  | .rxcrc => .cli
  | .remcrc => .srv
  | .wd => .wd

/-! ## Status -/

/-- `latch`: OR while dirty, overwrite otherwise, and dirty afterwards (spec/42_scan_engine.md R160). The `dirty`
field of `flags` is of no account. -/
def Status.latch (st flags : Status) : Status where
  watchdogError := (st.dirty && st.watchdogError) || flags.watchdogError
  remoteCrcError := (st.dirty && st.remoteCrcError) || flags.remoteCrcError
  rxCrcError := (st.dirty && st.rxCrcError) || flags.rxCrcError
  rxSymbolError := (st.dirty && st.rxSymbolError) || flags.rxSymbolError
  rxDataSizeError := (st.dirty && st.rxDataSizeError) || flags.rxDataSizeError
  dirty := true

/-- The six bits of the STATUS word, dirty first (spec/30_encoding.md R103). -/
def Status.bits (st : Status) : BitVec 6 :=
  BitVec.ofBool st.dirty ++ BitVec.ofBool st.rxDataSizeError ++ BitVec.ofBool st.rxSymbolError
    ++ BitVec.ofBool st.rxCrcError ++ BitVec.ofBool st.remoteCrcError ++ BitVec.ofBool st.watchdogError

/-- The STATUS word (spec/30_encoding.md R103). -/
def Status.word (st : Status) : Word := st.bits.setWidth 32

/-! ## Codes -/

/-- The results of commands (spec/30_encoding.md R97). TooManySatellites is no command's result (R281). -/
inductive ResultCode where
  | ok | wrongState | dependencyNotBlocked | busy | notFound | badParameter
deriving DecidableEq, Repr

/-- The value in RESULT (spec/30_encoding.md R97). -/
def ResultCode.code : ResultCode → Byte
  | .ok => 0x00
  | .wrongState => 0x01
  | .dependencyNotBlocked => 0x02
  | .busy => 0x03
  | .notFound => 0x05
  | .badParameter => 0x06

/-- The results of a self-test (spec/30_encoding.md R105). -/
inductive SelftestCode where
  | success | serverCrcFailure | clientCrcFailure | watchdogFailure | notFound
deriving DecidableEq, Repr

/-- The code in a SELFTEST_RESULT event (spec/30_encoding.md R105). -/
def SelftestCode.code : SelftestCode → Byte
  | .success => 0x00
  | .serverCrcFailure => 0x10
  | .clientCrcFailure => 0x11
  | .watchdogFailure => 0x12
  | .notFound => 0x05

/-- The results of discovery (spec/30_encoding.md R106). -/
inductive DiscoveryCode where
  | ok | tooManySatellites | emptyBus
deriving DecidableEq, Repr

/-- The code in a DISC_RESULT event (spec/30_encoding.md R106). -/
def DiscoveryCode.code : DiscoveryCode → Byte
  | .ok => 0x00
  | .tooManySatellites => 0x04
  | .emptyBus => 0x13

/-- The Link or a satellite (spec/44_state_machine.md, opening). -/
inductive Entity where
  | link
  | sat (a : Nat)
deriving DecidableEq, Repr

/-- `id(e)`: 0xFF for the Link, the address for a satellite (spec/30_encoding.md R104). -/
def Entity.id : Entity → BitVec 8
  | .link => 0xFF
  | .sat a => BitVec.ofNat 8 a

/-- An event (spec/30_encoding.md R104). -/
inductive Event where
  | satExists (a : Nat) (present : Bool)
  | opState (e : Entity) (op : OpState)
  | sensorRaw (a : Nat) (value : Byte)
  | statusNotify (a : Nat) (status : BitVec 6)
  | selftestResult (a : Nat) (code : SelftestCode)
  | discResult (code : DiscoveryCode) (count : BitVec 8)
deriving DecidableEq, Repr

/-- An event word of TYPE, ID and PAYLOAD (spec/30_encoding.md R104). -/
def eventWord (type : BitVec 4) (id : BitVec 8) (payload : BitVec 20) : Word := type ++ id ++ payload

/-- The word of an event (spec/30_encoding.md R104). -/
def Event.word : Event → Word
  | .satExists a present => eventWord 1 (BitVec.ofNat 8 a) ((BitVec.ofBool present).setWidth 20)
  | .opState e op => eventWord 2 e.id (op.setWidth 20)
  | .sensorRaw a value => eventWord 3 (BitVec.ofNat 8 a) (value.setWidth 20)
  | .statusNotify a status => eventWord 4 (BitVec.ofNat 8 a) (status.setWidth 20)
  | .selftestResult a code => eventWord 5 (BitVec.ofNat 8 a) (code.code.setWidth 20)
  | .discResult code count => eventWord 6 0xFF ((count ++ code.code).setWidth 20)

/-! ## State words -/

/-- The bit of an adm-state: 1 is DISABLE (spec/10_state.md R25). -/
def Adm.bit : Adm → BitVec 1
  | .enable => 0
  | .disable => 1

/-- The code of a self-test phase (spec/30_encoding.md R102). -/
def StPhase.code : StPhase → BitVec 2
  | .idle => 0
  | .srv => 1
  | .cli => 2
  | .wd => 3

/-- The LINK_STATE word (spec/30_encoding.md R101). -/
def linkStateWord (l : LinkRegs) (d : DiscRegs) (r : ReestRegs) : Word :=
  0#6 ++ BitVec.ofBool r.armed ++ BitVec.ofBool (decide (d.state ≠ .idle) || d.pending) ++ l.noOfSats ++ 0#7
    ++ l.adm.bit ++ 0#3 ++ l.op

/-- The SAT_STATE word (spec/30_encoding.md R102), of a satellite, its slot and the last received sensor byte.
DEDUCED: bits [17:12] show the test modes as they stand, also where a program of spec/95_test_vectors.md (P7, log 28) and
the example of spec/46_host_commands.md R265 (right after discovery, log 29) show 0 for a mode that is not yet
INACTIVE. -/
def satStateWord (x : Sat) (sl : Slot) (sensor : Byte) : Word :=
  sensor ++ 0#6 ++ sl.tm.wd.code ++ sl.tm.cli.code ++ sl.tm.srv.code ++ x.stPhase.code
    ++ BitVec.ofBool sl.txEnableReq ++ x.adm.bit ++ 0#3 ++ x.op

/-- The LINK_CONFIG word (spec/20_memory.md R62). -/
def linkConfigWord (c : ConfRegs) : Word := 0#8 ++ c.linkAddr ++ c.maxSats ++ c.scanInterval

/-- The LINK_THRES word (spec/20_memory.md R62). -/
def linkThresWord (l : LinkRegs) : Word := l.thresHigh ++ l.thresLow

/-- The EVSTAT word (spec/20_memory.md R62). -/
def evStatWord (evq : List Word) (ovf : Bool) : Word :=
  BitVec.ofBool ovf ++ 0#15 ++ BitVec.ofNat 16 (min evq.length 0xFFFF)

end Sys2Proof.Machine
end

