-- ==== Sys2Proof/Machine/Operands.lean ====
section
/-! DEFINITION. Decoding the operands of a command: the fields of the CMD word and of ARG, and the checks made on
them (spec/30_encoding.md R93 to R98, spec/46_host_commands.md R250). -/

namespace Sys2Proof.Machine

/-- The fields of a CMD word that every command but its own leaves unused: the reserved bits (R93). -/
def reservedZero (f : CmdFields) : Bool := decide (f.rsv = 0)

/-- KIND, SEL and RST are 0, for a command that does not use them (R93). -/
def counterFieldsZero (f : CmdFields) : Bool := decide (f.kind = 0) && !f.sel && !f.rst

/-- A command without operands in its word: w[31:8] = 0 (R92, R93). -/
def onlyOpcode (f : CmdFields) : Bool :=
  reservedZero f && decide (f.sat = 0) && decide (f.ch = 0) && counterFieldsZero f

/-- A command that uses SAT alone (R92, R93). -/
def onlySat (f : CmdFields) : Bool := reservedZero f && decide (f.ch = 0) && counterFieldsZero f

/-- A command that uses SAT and CH (R92, R93). -/
def onlySatCh (f : CmdFields) : Bool := reservedZero f && counterFieldsZero f

/-- A command that uses KIND, SEL and RST (R92, R93). -/
def onlyCounter (f : CmdFields) : Bool := reservedZero f && decide (f.sat = 0) && decide (f.ch = 0)

/-- A command that uses SAT, KIND, SEL and RST (R92, R93). -/
def onlySatCounter (f : CmdFields) : Bool := reservedZero f && decide (f.ch = 0)

/-- CH is 0 to 3 (R94). -/
def channelOk (f : CmdFields) : Bool := decide (f.ch.toNat ≤ 3)

/-- ARG has no bit set at or above bit `n`: the unused bits of an ARG that is used (R93). -/
def argFits (x : Word) (n : Nat) : Bool := decide (x.toNat < 2 ^ n)

/-- ARG[31:16], the high threshold (R92). -/
def argHigh (x : Word) : BitVec 16 := x.extractLsb' 16 16

/-- ARG[15:0], the low threshold (R92). -/
def argLow (x : Word) : BitVec 16 := x.extractLsb' 0 16

/-- The threshold pair in ARG is legal: low < high (spec/46_host_commands.md R261, R262). -/
def thresholdsOk (x : Word) : Bool := decide (argLow x < argHigh x)

/-- The link counter kind of a KIND code, `none` where it is illegal for RDLINKCNT (R95). -/
def linkKindOf (kind : BitVec 4) : Option LinkKind :=
  match kind.toNat with
  | 0 => some .sym
  | 1 => some .size
  | 2 => some .rxcrc
  | 3 => some .remcrc
  | 4 => some .wd
  | 5 => some .timing
  | _ => none

/-- A counter of a satellite that RDSATCNT can read (R95). -/
inductive SatCounterSel where
  | cumulative (k : SatKind)
  | second (k : SatKind)
  | test (t : TestCounterKind)
deriving DecidableEq, Repr

/-- The counter a KIND and SEL pair selects for RDSATCNT, `none` where the pair is illegal (R95, R96). -/
def satCounterOf (kind : BitVec 4) (sel : Bool) : Option SatCounterSel :=
  match kind.toNat, sel with
  | 2, false => some (.cumulative .rxcrc)
  | 3, false => some (.cumulative .remcrc)
  | 4, false => some (.cumulative .wd)
  | 2, true => some (.second .rxcrc)
  | 3, true => some (.second .remcrc)
  | 4, true => some (.second .wd)
  | 6, false => some (.test .tremcrc)
  | 7, false => some (.test .trxcrc)
  | 8, false => some (.test .twd)
  | _, _ => none

end Sys2Proof.Machine
end

