-- ==== Sys2Proof/Machine/Ops.lean ====
section
/-! DEFINITION. The named operations over the state: slots and satellites, the clock, the event queue, how a command
ends, and the operational and administrative state machine (spec/44_state_machine.md). -/

namespace Sys2Proof.Machine

/-! ## Plain updates -/

/-- `S.scanPhase <- p`. -/
def State.setPhase (s : State) (p : ScanPhase) : State := { s with scanPhase := p }

/-- The Link's state replaced. -/
def State.setLink (s : State) (l : LinkRegs) : State := { s with link := l }

/-- The slots replaced. -/
def State.setSlots (s : State) (x : List Slot) : State := { s with slots := x }

/-- The satellites replaced. -/
def State.setSats (s : State) (x : List Sat) : State := { s with sats := x }

/-- The discovery sequencer's state replaced. -/
def State.setDisc (s : State) (d : DiscRegs) : State := { s with disc := d }

/-- The re-establishment timer replaced. -/
def State.setReest (s : State) (r : ReestRegs) : State := { s with reest := r }

/-- The scan cycle's working state replaced. -/
def State.setCyc (s : State) (c : CycleRegs) : State := { s with cyc := c }

/-- The command interface replaced. -/
def State.setHost (s : State) (h : HostRegs) : State := { s with host := h }

/-- The event queue and its overflow flag replaced. -/
def State.setEvents (s : State) (q : List Word) (ovf : Bool) : State := { s with evq := q, evOvf := ovf }

/-- The time bases replaced. -/
def State.setTime (s : State) (t : TimeRegs) : State := { s with time := t }

/-- The transmit line replaced. -/
def State.setLine (s : State) (l : LineRegs) : State := { s with line := l }

/-- The value returned to the HOST agent. -/
def State.setReadValue (s : State) (v : Option Word) : State := { s with readValue := v }

/-- The environment's choices replaced. -/
def State.setEnv (s : State) (e : Env) : State := { s with env := e }

/-! ## Slots and satellites -/

/-- Slot `i`; a slot after reset where there is none. -/
def State.slot (s : State) (i : Nat) : Slot := s.slots[i]?.getD Slot.reset

/-- Satellite `a`; one after reset where there is none. -/
def State.sat (s : State) (a : Nat) : Sat := s.sats[a]?.getD (Sat.reset 0 0)

/-- Slot `i` changed by `g`. -/
def State.modifySlot (s : State) (i : Nat) (g : Slot → Slot) : State := s.setSlots (s.slots.modify i g)

/-- Satellite `a` changed by `g`. -/
def State.modifySat (s : State) (a : Nat) (g : Sat → Sat) : State := s.setSats (s.sats.modify a g)

/-- Satellite `a` exists: `a < MAX_SATS` and `S.satExists[a] = 1` (spec/46_host_commands.md R251). -/
def State.satPresent (s : State) (a : Nat) : Bool := decide (a < s.cfg.maxSats) && (s.sat a).present

/-- The addresses of the satellites in ascending order. -/
def State.addresses (s : State) : List Nat := List.range s.cfg.maxSats

/-- `g` done for each existing satellite in ascending order, each asked for at its turn. -/
def State.forEachSat (s : State) (g : Nat → State → State) : State :=
  s.addresses.foldl (fun s a => if s.satPresent a then g a s else s) s

/-- A write to a host-owned field or a test request of slot `i`: the change and, in the same step, dirty
(spec/10_state.md R31). -/
def State.writeTx (s : State) (i : Nat) (g : Slot → Slot) : State :=
  s.modifySlot i fun sl => { g sl with txDirty := true }

/-- `S.txReq[i][k] <- v` (spec/10_state.md R30, R31). -/
def State.setTxReq (s : State) (i : Nat) (k : TestKind) (v : Bool) : State :=
  s.writeTx i fun sl => { sl with txReq := sl.txReq.set k v }

/-- `S.satOp[a] <- op`; where that changes it, slot `a` becomes dirty (spec/10_state.md R31; log 10). -/
def State.setSatOp (s : State) (a : Nat) (op : OpState) : State :=
  let s' := s.modifySat a fun x => { x with op := op }
  if (s.sat a).op = op then s' else s'.modifySlot a fun sl => { sl with txDirty := true }

/-! ## The CLOCK and BUS agents -/

/-- The CLOCK agent answers a `now()`: `env.clock` becomes the answer, no smaller than the last one
(spec/00_scope.md R8; log 1). -/
def State.tick (s : State) : State :=
  match s.env.clockIn with
  | d :: ds => s.setEnv { s.env with clock := s.env.clock + d, clockIn := ds }
  | [] => s.setEnv { s.env with clock := s.env.clock + Config.clockAdvance s.env.draws, draws := s.env.draws + 1 }

/-- The BUS agent's answer to a burst (spec/41_bit_transport.md R133; log 1). -/
def State.busAnswer (s : State) : RxBurst :=
  match s.env.busIn with
  | rx :: _ => rx
  | [] => Config.busAnswer s.env.draws

/-- The BUS agent has answered. -/
def State.busAdvance (s : State) : State :=
  match s.env.busIn with
  | _ :: rest => s.setEnv { s.env with busIn := rest }
  | [] => s.setEnv { s.env with draws := s.env.draws + 1 }

/-! ## Events -/

/-- The queue holds EVQ_DEPTH events (spec/60_exceptions.md R288). -/
def State.evqFull (s : State) : Bool :=
  match s.cfg.evqDepth with
  | none => false
  | some d => decide (d ≤ s.evq.length)

/-- `emit`: the event's word at the tail of the queue; lost, with `S.evOvf` set, where the queue is full
(spec/60_exceptions.md R286, R288). -/
def State.emit (s : State) (e : Event) : State :=
  if s.evqFull then s.setEvents s.evq true else s.setEvents (s.evq ++ [e.word]) s.evOvf

/-- IRQ: 1 exactly when the event queue is not empty (spec/60_exceptions.md R289). -/
def State.irq (s : State) : Bool := !s.evq.isEmpty

/-! ## How a command ends

The SLC has no exceptions to take or return from (spec/60_exceptions.md R280, R291): what a command's error does is
`raise`. -/

/-- What a command's rule gives: the state and the read data of a command that succeeds, or a result code. -/
abbrev CmdResult := Except ResultCode (State × Word)

/-- `raise R`: RESULT is the code, RDATA 0, and everything else as before the command (spec/00_scope.md R10,
spec/46_host_commands.md R250). -/
def State.raise (s : State) (r : ResultCode) : State := s.setHost { s.host with result := r.code, rdata := 0 }

/-- A command that succeeds: RESULT is OK and RDATA the read data (spec/46_host_commands.md R250). -/
def State.complete (s : State) (v : Word) : State :=
  s.setHost { s.host with result := ResultCode.ok.code, rdata := v }

/-- The state after a command on `s` with the given result (spec/46_host_commands.md R250). -/
def State.finish (s : State) : CmdResult → State
  | .ok (t, v) => t.complete v
  | .error r => s.raise r

/-- A command as a step of the machine. No command waits, faults or is refused (spec/46_host_commands.md R250). -/
def runCommand (s : State) (r : CmdResult) : Host.Outcome State Fault Refusal := .next (s.finish r)

/-! ## The operational state machine -/

/-- `op(e)` (spec/44_state_machine.md, opening). -/
def State.op (s : State) : Entity → OpState
  | .link => s.link.op
  | .sat a => (s.sat a).op

/-- `op(e) <- v`. -/
def State.setOp (s : State) (e : Entity) (v : OpState) : State :=
  match e with
  | .link => s.setLink { s.link with op := v }
  | .sat a => s.setSatOp a v

/-- `reest_arm()` (spec/44_state_machine.md R220): a `now()` of its own (log 20). -/
def State.reestArm (s : State) : State :=
  let t := s.tick
  t.setReest { armed := true, deadline := t.env.clock + t.cfg.tReestablishMs }

/-- `op(e) <- op(e) | flag` and its OP_STATE event: `opBlock` of an entity without children to reach
(spec/44_state_machine.md R210). -/
def State.blockOne (s : State) (e : Entity) (flag : OpState) : State :=
  (s.setOp e (s.op e ||| flag)).emit (.opState e (s.op e ||| flag))

/-- `opBlock(e, flag)` (spec/44_state_machine.md R210). -/
def State.opBlock (s : State) (e : Entity) (flag : OpState) : State :=
  match e with
  | .sat a => s.blockOne (.sat a) flag
  | .link =>
    let s1 := if s.link.op = 0 then s.forEachSat fun a t => t.blockOne (.sat a) opControlBlocked else s
    let s2 := s1.blockOne .link flag
    if hasBit flag (opFail ||| opErrorSecond) then s2.reestArm else s2

/-- `reset_counters(e)` (spec/44_state_machine.md R213). -/
def State.resetCounters (s : State) : Entity → State
  | .link => s.setLink { s.link with cum := LinkCounters.zero, sec := LinkCounters.zero }
  | .sat a => s.modifySat a fun x =>
      { x with cum := SatCounters.zero, sec := SatCounters.zero, test := TestCounters.zero }

/-- `opDeBlock` of a satellite, which has no children (spec/44_state_machine.md R212). -/
def State.deblockSat (s : State) (a : Nat) (flag : OpState) : State :=
  let old := (s.sat a).op
  let new := old &&& ~~~flag
  let s1 := s.setSatOp a new
  let s2 := if old ≠ 0 ∧ new = 0 then s1.resetCounters (.sat a) else s1
  s2.emit (.opState (.sat a) new)

/-- `opDeBlock(e, flag)` (spec/44_state_machine.md R212). -/
def State.opDeBlock (s : State) (e : Entity) (flag : OpState) : State :=
  match e with
  | .sat a => s.deblockSat a flag
  | .link =>
    let old := s.link.op
    let new := old &&& ~~~flag
    let s1 := s.setLink { s.link with op := new }
    let s2 :=
      if old ≠ 0 ∧ new = 0 then
        (s1.forEachSat fun a t => t.deblockSat a opControlBlocked).resetCounters .link
      else s1
    s2.emit (.opState .link new)

/-! ## Counting -/

/-- `count(e, k)` for the Link (spec/42_scan_engine.md R163). -/
def State.countLink (s : State) (k : LinkKind) : State :=
  s.setLink { s.link with cum := s.link.cum.inc k, sec := s.link.sec.inc k }

/-- `count(e, k)` for satellite `a`, counted at the Link too (spec/42_scan_engine.md R163). -/
def State.countSat (s : State) (a : Nat) (k : SatKind) : State :=
  (s.modifySat a fun x => { x with cum := x.cum.inc k, sec := x.sec.inc k }).countLink k.toLink

/-! ## Self-test start -/

/-- `selftest_start(a, implicit)` (spec/45_selftest.md R230): the state, or the code of the refusal. -/
def State.selftestStart (s : State) (a : Nat) (implicit : Bool) : Except ResultCode State :=
  if (s.sat a).stPhase ≠ .idle then .error .busy
  else if (s.sat a).op ≠ 0 then .error .wrongState
  else
    .ok <| (s.setTxReq a .srv true).modifySat a fun x =>
      { x with
        test := TestCounters.zero
        stPhase := .srv
        stCnt := BitVec.ofNat 16 s.cfg.selftestPhaseCycles
        stImplicit := implicit }

/-! ## The administrative state -/

/-- `adm(e)` (spec/44_state_machine.md, opening). -/
def State.adm (s : State) : Entity → Adm
  | .link => s.link.adm
  | .sat a => (s.sat a).adm

/-- `adm(e) <- v`. -/
def State.setAdm (s : State) (e : Entity) (v : Adm) : State :=
  match e with
  | .link => s.setLink { s.link with adm := v }
  | .sat a => s.modifySat a fun x => { x with adm := v }

/-- Some existing satellite is admin-enabled (spec/44_state_machine.md R215). -/
def State.someSatEnabled (s : State) : Bool :=
  s.addresses.any fun a => s.satPresent a && decide ((s.sat a).adm = .enable)

/-- `admBlock(e)` (spec/44_state_machine.md R215). -/
def State.admBlock (s : State) (e : Entity) : Except ResultCode State :=
  if s.adm e ≠ .enable then .error .wrongState
  else if e = .link ∧ s.someSatEnabled then .error .dependencyNotBlocked
  else .ok ((s.setAdm e .disable).opBlock e opDisabled)

/-- The last line of `admDeBlock(e)`: the Link requests discovery (R217); a satellite starts an implicit self-test,
and where that is refused nothing happens (R218). -/
def State.afterDeBlock (s : State) : Entity → State
  | .link => s.setDisc { s.disc with pending := true }
  | .sat a =>
    match s.selftestStart a true with
    | .ok t => t
    | .error _ => s

/-- `admDeBlock(e)` (spec/44_state_machine.md R216). -/
def State.admDeBlock (s : State) (e : Entity) : Except ResultCode State :=
  if s.adm e ≠ .disable then .error .wrongState
  else if e ≠ .link ∧ s.link.adm ≠ .enable then .error .dependencyNotBlocked
  else .ok (((s.setAdm e .enable).opDeBlock e opDisabled).afterDeBlock e)

/-! ## The host's command in the queue -/

/-- The HOST agent's next access is a write of `w` to CMD, before every access already chosen. -/
def State.pushCommand (s : State) (w : Word) : State :=
  s.setEnv { s.env with agenda := .host (.write 0x00 4 w) :: s.env.agenda }

end Sys2Proof.Machine
end

