-- ==== Sys2Proof/Machine/AdminCommands.lean ====
section
/-! DEFINITION. The administrative commands (spec/46_host_commands.md R256 to R259). -/

namespace Sys2Proof.Machine

/-- LINKENABLE (R256). -/
def execLinkEnable (f : CmdFields) (s : State) : Host.Outcome State Fault Refusal :=
  runCommand s <|
    if !onlyOpcode f then .error .badParameter
    else (s.admDeBlock .link).map fun t => (t, 0)

/-- LINKDISABLE (R257). -/
def execLinkDisable (f : CmdFields) (s : State) : Host.Outcome State Fault Refusal :=
  runCommand s <|
    if !onlyOpcode f then .error .badParameter
    else (s.admBlock .link).map fun t => (t, 0)

/-- SATENABLE sat (R258). -/
def execSatEnable (f : CmdFields) (s : State) : Host.Outcome State Fault Refusal :=
  let a := f.sat.toNat
  runCommand s <|
    if !onlySat f then .error .badParameter
    else if !s.satPresent a then .error .notFound
    else (s.admDeBlock (.sat a)).map fun t => (t, 0)

/-- SATDISABLE sat (R259). -/
def execSatDisable (f : CmdFields) (s : State) : Host.Outcome State Fault Refusal :=
  let a := f.sat.toNat
  runCommand s <|
    if !onlySat f then .error .badParameter
    else if !s.satPresent a then .error .notFound
    else (s.admBlock (.sat a)).map fun t => (t, 0)

end Sys2Proof.Machine
end

