-- ==== Sys2Proof/Machine/FrameCommands.lean ====
section
/-! DEFINITION. NOP and the frame field commands (spec/46_host_commands.md R252 to R255). -/

namespace Sys2Proof.Machine

/-- NOP (R252). -/
def execNop (f : CmdFields) (s : State) : Host.Outcome State Fault Refusal :=
  runCommand s (if !onlyOpcode f then .error .badParameter else .ok (s, 0))

/-- SETACTVAL sat, ch, value (R253). -/
def execSetActVal (f : CmdFields) (s : State) : Host.Outcome State Fault Refusal :=
  let a := f.sat.toNat
  runCommand s <|
    if !onlySatCh f then .error .badParameter
    else if !channelOk f || !argFits s.host.arg 8 then .error .badParameter
    else if !s.satPresent a then .error .notFound
    else
      .ok (s.writeTx a fun sl =>
        { sl with txActVal := sl.txActVal.setIfInBounds f.ch.toNat (s.host.arg.extractLsb' 0 8) }, 0)

/-- SETACTMODE sat, ch, mode (R254). -/
def execSetActMode (f : CmdFields) (s : State) : Host.Outcome State Fault Refusal :=
  let a := f.sat.toNat
  runCommand s <|
    if !onlySatCh f then .error .badParameter
    else if !channelOk f || !argFits s.host.arg 3 then .error .badParameter
    else if !s.satPresent a then .error .notFound
    else
      .ok (s.writeTx a fun sl =>
        { sl with txActMode := sl.txActMode.setIfInBounds f.ch.toNat (s.host.arg.extractLsb' 0 3) }, 0)

/-- SETSATEN sat, en (R255). -/
def execSetSatEn (f : CmdFields) (s : State) : Host.Outcome State Fault Refusal :=
  let a := f.sat.toNat
  runCommand s <|
    if !onlySat f then .error .badParameter
    else if !argFits s.host.arg 1 then .error .badParameter
    else if !s.satPresent a then .error .notFound
    else .ok (s.writeTx a fun sl => { sl with txEnableReq := s.host.arg.getLsbD 0 }, 0)

end Sys2Proof.Machine
end

