-- ==== Sys2Proof/Machine/IllegalCommands.lean ====
section
/-! DEFINITION. The illegal opcodes (spec/46_host_commands.md R267): any value of the other bits; the command ends
with BadParameter. -/

namespace Sys2Proof.Machine

/-- What every illegal opcode does (R267). -/
def illegalCommand (s : State) : Host.Outcome State Fault Refusal := runCommand s (.error .badParameter)

/-- Opcode 0x0F (R267). -/
def execIllegal0f (_ : CmdFields) (s : State) : Host.Outcome State Fault Refusal := illegalCommand s

/-- Opcodes 0x10 to 0x1F (R267). -/
def execIllegal1x (_ : BitVec 4) (_ : CmdFields) (s : State) : Host.Outcome State Fault Refusal := illegalCommand s

/-- Opcodes 0x20 to 0x3F (R267). -/
def execIllegal2x (_ : BitVec 5) (_ : CmdFields) (s : State) : Host.Outcome State Fault Refusal := illegalCommand s

/-- Opcodes 0x40 to 0x7F (R267). -/
def execIllegal4x (_ : BitVec 6) (_ : CmdFields) (s : State) : Host.Outcome State Fault Refusal := illegalCommand s

/-- Opcodes 0x80 to 0xFF (R267). -/
def execIllegal8x (_ : BitVec 7) (_ : CmdFields) (s : State) : Host.Outcome State Fault Refusal := illegalCommand s

end Sys2Proof.Machine
end

