-- ==== Sys2Proof/Machine/Codec.lean ====
section
/-! DEFINITION. The frame codec: CRC, pack, unpack, encode, decode (spec/40_frame_codec.md R110 to R118), over the
64-bit view of a frame (spec/20_memory.md R71) and under any FRAME_LAYOUT and CRC_FORM (spec/00_scope.md R6). -/

namespace Sys2Proof.Machine

open Sys2Proof.Config (CrcForm)

/-- The fields of a wire frame (spec/30_encoding.md R81). -/
structure WireFrame where
  sensorValue : Byte
  actuatorValue : Vector Byte 4
  actuatorMode : Vector (BitVec 3) 4
  cmdWatchdogErrorTest : Bool
  cmdEnable : Bool
  cmdInvertCrc : Bool
  startMark : Bool
  fbReserved : BitVec 2
  fbWatchdogError : Bool
  fbRemoteCrcError : Bool
  crc : BitVec 4
deriving DecidableEq, Repr

/-- One `step(x)` of the CRC (R110 for DIRECT, R112 for SHIFT_IN). -/
def crcStep (form : CrcForm) (acc : BitVec 5) (x : Bool) : BitVec 5 :=
  match form with
  | .direct =>
    let shifted := acc <<< 1
    let fed := if x then shifted ^^^ 0b10000#5 else shifted
    if fed.getLsbD 4 then fed ^^^ 0b00011#5 else fed
  | .shiftIn =>
    let shifted := (acc <<< 1) ||| (BitVec.ofBool x).setWidth 5
    if shifted.getLsbD 4 then shifted ^^^ 0b10011#5 else shifted

/-- The 60 bits the CRC covers, in the order it takes them: bytes 0 to 6 and the high nibble of byte 7, MSB first
(R110). -/
def crcCoveredBits (b : FrameWord) : List Bool := (List.range 60).map fun i => b.getLsbD (63 - i)

/-- `crc4(b, inv)` (R110, R111). -/
def crc4 (form : CrcForm) (b : FrameWord) (inv : Bool) : BitVec 4 :=
  let acc := (crcCoveredBits b).foldl (crcStep form) 0#5
  let c := acc.extractLsb' 0 4
  if inv then ~~~c else c

/-- The bits of `w` from bit `j` on, each placed at the position the layout gives it (FRAME_LAYOUT, R83). -/
def placeBits : List Nat → Nat → FrameWord → FrameWord
  | [], _, _ => 0
  | p :: ps, j, w => (if w.getLsbD j then 1#64 <<< p else 0) ||| placeBits ps (j + 1) w

/-- The bits of `w` that the layout places at its positions, gathered from bit `j` on (FRAME_LAYOUT, R83). -/
def gatherBits : List Nat → Nat → FrameWord → FrameWord
  | [], _, _ => 0
  | p :: ps, j, w => (if w.getLsbD p then 1#64 <<< j else 0) ||| gatherBits ps (j + 1) w

/-- A frame in the default layout, moved to the layout `l`. Byte 7 stays: crc and the feedback bits are where the
source puts them (R82, R83). -/
def toLayout (l : List Nat) (w : FrameWord) : FrameWord := (w &&& 0xFF#64) ||| placeBits l 8 w

/-- A frame in the layout `l`, moved to the default layout. -/
def ofLayout (l : List Nat) (w : FrameWord) : FrameWord := (w &&& 0xFF#64) ||| gatherBits l 8 w

/-- The fields in list order, MSB first: the default layout (R83, R113). -/
def packDefault (f : WireFrame) : FrameWord :=
  f.sensorValue
    ++ f.actuatorValue[0] ++ f.actuatorValue[1] ++ f.actuatorValue[2] ++ f.actuatorValue[3]
    ++ f.actuatorMode[0] ++ f.actuatorMode[1] ++ f.actuatorMode[2] ++ f.actuatorMode[3]
    ++ BitVec.ofBool f.cmdWatchdogErrorTest ++ BitVec.ofBool f.cmdEnable
    ++ BitVec.ofBool f.cmdInvertCrc ++ BitVec.ofBool f.startMark
    ++ f.fbReserved ++ BitVec.ofBool f.fbWatchdogError ++ BitVec.ofBool f.fbRemoteCrcError
    ++ f.crc

/-- The fields of a frame in the default layout (R83, R115). -/
def unpackDefault (w : FrameWord) : WireFrame where
  sensorValue := w.extractLsb' 56 8
  actuatorValue := #v[w.extractLsb' 48 8, w.extractLsb' 40 8, w.extractLsb' 32 8, w.extractLsb' 24 8]
  actuatorMode := #v[w.extractLsb' 21 3, w.extractLsb' 18 3, w.extractLsb' 15 3, w.extractLsb' 12 3]
  cmdWatchdogErrorTest := w.getLsbD 11
  cmdEnable := w.getLsbD 10
  cmdInvertCrc := w.getLsbD 9
  startMark := w.getLsbD 8
  fbReserved := w.extractLsb' 6 2
  fbWatchdogError := w.getLsbD 5
  fbRemoteCrcError := w.getLsbD 4
  crc := w.extractLsb' 0 4

/-- `pack(F)` under the layout `l` (R113). -/
def pack (l : List Nat) (f : WireFrame) : FrameWord := toLayout l (packDefault f)

/-- `unpack(b)` under the layout `l` (R115). -/
def unpack (l : List Nat) (b : FrameWord) : WireFrame := unpackDefault (ofLayout l b)

/-- `setcrc(b, inv)`: the CRC goes to the low nibble of byte 7 and the high nibble stays (R114, R82). -/
def setCrc (form : CrcForm) (b : FrameWord) (inv : Bool) : FrameWord :=
  (b &&& ~~~0xF#64) ||| (crc4 form b inv).setWidth 64

/-- `encode(F, inv)` (R117). -/
def encodeFrame (p : Config.Params) (f : WireFrame) (inv : Bool) : FrameWord :=
  setCrc p.crcForm (pack p.frameLayout { f with crc := 0 }) inv

/-- `decode(b, prev)`: the fields, and whether the sensor byte differs from `prev` (R116). -/
def decodeFrame (p : Config.Params) (b : FrameWord) (prev : Byte) : WireFrame × Bool :=
  let f := unpack p.frameLayout b
  (f, decide (f.sensorValue ≠ prev))

/-- `crcok(b)` (R118). -/
def crcOk (p : Config.Params) (b : FrameWord) : Bool := decide (crc4 p.crcForm b false = b.extractLsb' 0 4)

/-- The sensor byte of a received frame: under the default layout byte 0 (R102, R116, R157; log 8). -/
def sensorOf (p : Config.Params) (b : FrameWord) : Byte := (unpack p.frameLayout b).sensorValue

end Sys2Proof.Machine
end

