-- ==== Sys2Proof/Machine/ReadCommands.lean ====
section
/-! DEFINITION. The read commands (spec/46_host_commands.md R263 to R266). -/

namespace Sys2Proof.Machine

/-- The link counter of kind `k`: this-second where `sel`, else cumulative (R263). -/
def State.linkCounter (s : State) (k : LinkKind) (sel : Bool) : BitVec 32 :=
  if sel then s.link.sec.get k else s.link.cum.get k

/-- That same counter set to 0 (R263). -/
def State.clearLinkCounter (s : State) (k : LinkKind) (sel : Bool) : State :=
  if sel then s.setLink { s.link with sec := s.link.sec.set k 0 }
  else s.setLink { s.link with cum := s.link.cum.set k 0 }

/-- RDLINKCNT kind[, sec][, rst] (R263). -/
def execRdLinkCnt (f : CmdFields) (s : State) : Host.Outcome State Fault Refusal :=
  runCommand s <|
    if !onlyCounter f then .error .badParameter
    else
      match linkKindOf f.kind with
      | none => .error .badParameter
      | some k => .ok (if f.rst then s.clearLinkCounter k f.sel else s, s.linkCounter k f.sel)

/-- The selected counter of a satellite (R264). -/
def Sat.counter (x : Sat) : SatCounterSel → BitVec 32
  | .cumulative k => x.cum.get k
  | .second k => x.sec.get k
  | .test t => x.test.get t

/-- That same counter set to 0 (R264). -/
def Sat.clearCounter (x : Sat) : SatCounterSel → Sat
  | .cumulative k => { x with cum := x.cum.set k 0 }
  | .second k => { x with sec := x.sec.set k 0 }
  | .test t => { x with test := x.test.set t 0 }

/-- RDSATCNT sat, kind[, sec][, rst] (R264). -/
def execRdSatCnt (f : CmdFields) (s : State) : Host.Outcome State Fault Refusal :=
  let a := f.sat.toNat
  runCommand s <|
    if !onlySatCounter f then .error .badParameter
    else
      match satCounterOf f.kind f.sel with
      | none => .error .badParameter
      | some c =>
        if !s.satPresent a then .error .notFound
        else .ok (if f.rst then s.modifySat a (·.clearCounter c) else s, (s.sat a).counter c)

/-- SAT_STATE(a) (spec/30_encoding.md R102). -/
def State.satState (s : State) (a : Nat) : Word :=
  satStateWord (s.sat a) (s.slot a) (sensorOf s.cfg (s.slot a).rxBytes)

/-- RDSATSTATE sat (R265). -/
def execRdSatState (f : CmdFields) (s : State) : Host.Outcome State Fault Refusal :=
  let a := f.sat.toNat
  runCommand s <|
    if !onlySat f then .error .badParameter
    else if !s.satPresent a then .error .notFound
    else .ok (s, s.satState a)

/-- CONSUMESTATUS sat (R266): the read and the clearing of dirty. -/
def execConsumeStatus (f : CmdFields) (s : State) : Host.Outcome State Fault Refusal :=
  let a := f.sat.toNat
  runCommand s <|
    if !onlySat f then .error .badParameter
    else if !s.satPresent a then .error .notFound
    else
      .ok (s.modifySlot a fun sl => { sl with status := { sl.status with dirty := false } },
        (s.slot a).status.word)

end Sys2Proof.Machine
end

