-- ==== Sys2Proof/Machine/TestCommands.lean ====
section
/-! DEFINITION. The self-test and threshold commands (spec/46_host_commands.md R260 to R262). -/

namespace Sys2Proof.Machine

/-- SELFTEST sat (R260). -/
def execSelftest (f : CmdFields) (s : State) : Host.Outcome State Fault Refusal :=
  let a := f.sat.toNat
  runCommand s <|
    if !onlySat f then .error .badParameter
    else if !s.satPresent a then .error .notFound
    else (s.selftestStart a false).map fun t => (t, 0)

/-- SETLINKTHRES high, low (R261). -/
def execSetLinkThres (f : CmdFields) (s : State) : Host.Outcome State Fault Refusal :=
  let x := s.host.arg
  runCommand s <|
    if !onlyOpcode f then .error .badParameter
    else if !thresholdsOk x then .error .badParameter
    else .ok (s.setLink { s.link with thresHigh := argHigh x, thresLow := argLow x }, 0)

/-- SETSATTHRES sat, high, low (R262). -/
def execSetSatThres (f : CmdFields) (s : State) : Host.Outcome State Fault Refusal :=
  let a := f.sat.toNat
  let x := s.host.arg
  runCommand s <|
    if !onlySat f then .error .badParameter
    else if !thresholdsOk x then .error .badParameter
    else if !s.satPresent a then .error .notFound
    else .ok (s.modifySat a fun y => { y with thresHigh := argHigh x, thresLow := argLow x }, 0)

end Sys2Proof.Machine
end

