-- ==== Sys2Proof/Machine/Dispatch.lean ====
section
/-! DEFINITION. The meaning of each command, one arm per constructor of Instr. -/

namespace Sys2Proof.Machine

/-- Executes one command (spec/46_host_commands.md R250). -/
def exec (i : Instr) (s : State) : Host.Outcome State Fault Refusal :=
  match i with
  | .nop f => Sys2Proof.Machine.execNop f s
  | .setactval f => Sys2Proof.Machine.execSetActVal f s
  | .setactmode f => Sys2Proof.Machine.execSetActMode f s
  | .setsaten f => Sys2Proof.Machine.execSetSatEn f s
  | .linkenable f => Sys2Proof.Machine.execLinkEnable f s
  | .linkdisable f => Sys2Proof.Machine.execLinkDisable f s
  | .satenable f => Sys2Proof.Machine.execSatEnable f s
  | .satdisable f => Sys2Proof.Machine.execSatDisable f s
  | .selftest f => Sys2Proof.Machine.execSelftest f s
  | .setlinkthres f => Sys2Proof.Machine.execSetLinkThres f s
  | .setsatthres f => Sys2Proof.Machine.execSetSatThres f s
  | .rdlinkcnt f => Sys2Proof.Machine.execRdLinkCnt f s
  | .rdsatcnt f => Sys2Proof.Machine.execRdSatCnt f s
  | .rdsatstate f => Sys2Proof.Machine.execRdSatState f s
  | .consumestatus f => Sys2Proof.Machine.execConsumeStatus f s
  | .illegal0f f => Sys2Proof.Machine.execIllegal0f f s
  | .illegal1x lo f => Sys2Proof.Machine.execIllegal1x lo f s
  | .illegal2x lo f => Sys2Proof.Machine.execIllegal2x lo f s
  | .illegal4x lo f => Sys2Proof.Machine.execIllegal4x lo f s
  | .illegal8x lo f => Sys2Proof.Machine.execIllegal8x lo f s

end Sys2Proof.Machine
end

