-- ==== Sys2Proof/Machine/Registers.lean ====
section
/-! DEFINITION. The host register space (spec/20_memory.md R61 to R68). -/

namespace Sys2Proof.Machine

/-- An access is admitted: 4 bytes wide, aligned and inside the window (R64). -/
def accessAdmitted (addr width : Nat) : Bool := decide (width = 4) && decide (addr % 4 = 0) && decide (addr ≤ 0xFC)

/-- The value of the register at an offset (R62, R66, R68). -/
def State.register (s : State) (addr : Nat) : Word :=
  match addr with
  | 0x00 => 0
  | 0x04 => s.host.arg
  | 0x08 => s.host.result.setWidth 32
  | 0x0C => s.host.rdata
  | 0x10 => linkStateWord s.link s.disc s.reest
  | 0x14 => linkConfigWord s.conf
  | 0x18 => linkThresWord s.link
  | 0x1C => s.evq.headD 0
  | 0x20 => evStatWord s.evq s.evOvf
  | _ => 0

/-- The read of a register: its value to the HOST agent; reading EVENT removes the head of the queue (R66, R73). -/
def State.readRegister (s : State) (addr : Nat) : State :=
  let s1 := s.setReadValue (some (s.register addr))
  if addr = 0x1C then s1.setEvents s.evq.tail s.evOvf else s1

/-- The write of a register but CMD (R65, R67, R68). -/
def State.writeRegister (s : State) (addr : Nat) (v : Word) : State :=
  match addr with
  | 0x04 => s.setHost { s.host with arg := v }
  | 0x20 => if v.getLsbD 31 then s.setEvents s.evq false else s
  | _ => s

/-- One access of the HOST agent (R61 to R68). A write to CMD executes the command (R65). -/
def hostAccess (a : Access) (s : State) : Host.Outcome State Fault Refusal :=
  match a with
  | .read addr width => if accessAdmitted addr width then .next (s.readRegister addr) else .refused .accessNotAdmitted
  | .write addr width v =>
    if !accessAdmitted addr width then .refused .accessNotAdmitted
    else if addr = 0x00 then exec (decodeWord v) s
    else .next (s.writeRegister addr v)

end Sys2Proof.Machine
end

