-- ==== Sys2Proof/Machine/Discovery.lean ====
section
/-! DEFINITION. The discovery sequencer (spec/43_discovery.md R190 to R199). -/

namespace Sys2Proof.Machine

/-- The self-test of satellite `a` ended by its destruction (R192, spec/45_selftest.md R236). -/
def State.abortSelftest (s : State) (a : Nat) : State :=
  if (s.sat a).stPhase = .idle then s
  else
    (s.modifySat a fun x => { x with stPhase := .idle, stCnt := 0, stImplicit := false }).emit
      (.selftestResult a .notFound)

/-- Satellite `a` destroyed, its listener told first (R192). -/
def State.destroySat (s : State) (a : Nat) : State :=
  ((s.abortSelftest a).emit (.satExists a false)).modifySat a fun x => { x with present := false }

/-- What step 1 makes of a slot (R192). `S.txBytes` stays: only ENCODE writes it (spec/10_state.md R32). -/
def Slot.clearForDiscovery (sl : Slot) : Slot :=
  { sl with
    status := Status.zero
    txActVal := Vector.replicate 4 0
    txActMode := Vector.replicate 4 0
    txEnableReq := false
    txReq := noRequests
    tm := allInactive
    rxBytes := 0
    txDirty := true }

/-- Step 1 (R192). -/
def State.discoveryStep1 (s : State) : State :=
  let s1 := (s.opBlock .link opInit).forEachSat fun a t => t.destroySat a
  s1.setSlots (s1.slots.map Slot.clearForDiscovery)

/-- A server-CRC-invert request written, and dirty with it (spec/10_state.md R30, R31). -/
def Slot.requestSrv (v : Bool) (sl : Slot) : Slot :=
  { sl with txReq := sl.txReq.set .srv v, txDirty := true }

/-- Step 2 (R193). -/
def State.discoveryStep2 (s : State) : State :=
  let s1 := s.setLink { s.link with noOfSats := BitVec.ofNat 8 (s.cfg.maxSats + 1) }
  let s2 := s1.setSlots (s1.slots.map (Slot.requestSrv true))
  s2.setDisc { s2.disc with cnt := BitVec.ofNat 16 (2 * s2.cfg.settleCycles), state := .probe }

/-- The pending start, at the start of ENCODE (R191). -/
def State.discoveryStart (s : State) : State :=
  if s.disc.pending then ((s.setDisc { s.disc with pending := false }).discoveryStep1).discoveryStep2
  else s

/-- What the TooManySatellites abort makes of a slot (R195). -/
def Slot.abortProbe (sl : Slot) : Slot :=
  { Slot.requestSrv false sl with tm := allInactive, status := Status.zero }

/-- The TooManySatellites abort (R195). -/
def State.probeAbort (s : State) : State :=
  let s1 := s.setSlots (s.slots.map Slot.abortProbe)
  let s2 := s1.setLink { s1.link with noOfSats := 0 }
  let s3 := s2.setDisc { s2.disc with result := 0, state := .idle }
  ((s3.opBlock .link opFail).opDeBlock .link opInit).emit (.discResult .tooManySatellites 0)

/-- The number of satellites found: the first slot without remoteCrcError (R196). -/
def State.probeCount (s : State) : Nat := s.slots.findIdx fun sl => !sl.status.remoteCrcError

/-- The rest of the probe evaluation (R196). -/
def State.probeAccept (s : State) : State :=
  let k := s.probeCount
  let s1 := s.setSlots (s.slots.map (Slot.requestSrv false))
  s1.setDisc
    { s1.disc with
      result := BitVec.ofNat 8 k
      cnt := BitVec.ofNat 16 s1.cfg.settleCycles
      state := .clear }

/-- `probe_evaluate()` (R195, R196). -/
def State.probeEvaluate (s : State) : State :=
  if (s.slot s.cfg.maxSats).status.remoteCrcError then s.probeAbort else s.probeAccept

/-- What the end of the settle window makes of slot `i` when `k` satellites were found (R197). -/
def Slot.settle (k i : Nat) (sl : Slot) : Slot :=
  { sl with status := Status.zero, tm := if k ≤ i then allInactive else sl.tm }

/-- The op-state of a new satellite: DISABLED, and CONTROL_BLOCKED where the Link is not WORKING
(spec/10_state.md R38, R198; log 11). -/
def State.newSatOp (s : State) : OpState :=
  if s.link.op = 0 then opDisabled else opDisabled ||| opControlBlocked

/-- Satellite `a` instantiated (R198). The thresholds stay (spec/10_state.md R39). -/
def State.createSat (s : State) (a : Nat) : State :=
  let s1 := (s.setSatOp a s.newSatOp).modifySat a fun x =>
    { x with
      present := true
      adm := .disable
      cum := SatCounters.zero
      sec := SatCounters.zero
      test := TestCounters.zero
      stPhase := .idle
      stCnt := 0
      stImplicit := false }
  s1.emit (.satExists a true)

/-- `discovery_finish()` (R197 to R199). DEDUCED: noOfSats becomes k at the SEQ of this cycle, after its burst of all
MAX_SATS + 1 slots, so the next cycle's burst is the first of k frames (R204), where program P1 of
spec/95_test_vectors.md shows that of this cycle with k frames (log 31). -/
def State.discoveryFinish (s : State) : State :=
  let k := s.disc.result.toNat
  let s1 := s.setSlots (s.slots.mapIdx fun i sl => Slot.settle k i sl)
  let s2 := s1.setLink { s1.link with noOfSats := s.disc.result }
  let s3 := (List.range k).foldl (fun t a => t.createSat a) s2
  let s4 := s3.setDisc { s3.disc with state := .idle }
  if 0 < k then
    (s4.opDeBlock .link (opFail ||| opInit)).emit (.discResult .ok s.disc.result)
  else
    ((s4.opBlock .link opFail).opDeBlock .link opInit).emit (.discResult .emptyBus 0)

/-- The discovery step at SEQ (R194). -/
def State.discoveryStep (s : State) : State :=
  let s1 := s.setDisc { s.disc with cnt := s.disc.cnt - 1 }
  match s.disc.state with
  | .idle => s
  | .probe => if s1.disc.cnt = 0 then s1.probeEvaluate else s1
  | .clear => if s1.disc.cnt = 0 then s1.discoveryFinish else s1

end Sys2Proof.Machine
end

