-- ==== Sys2Proof/Machine/Selftest.lean ====
section
/-! DEFINITION. The self-test sequencer at SEQ (spec/45_selftest.md R231 to R235). -/

namespace Sys2Proof.Machine

/-- `selftest_finish(a, code)` (R235). -/
def State.selftestFinish (s : State) (a : Nat) (code : SelftestCode) : State :=
  let imp := (s.sat a).stImplicit
  let s1 := s.writeTx a fun sl => { sl with txReq := noRequests }
  let s2 := s1.modifySat a fun x => { x with stPhase := .idle, stCnt := 0, stImplicit := false }
  let s3 := s2.emit (.selftestResult a code)
  if imp && decide (code ≠ .success) then s3.opBlock (.sat a) opFail else s3

/-- The move to the next phase: its request set and the last one cleared, and a new phase timeout (R232, R233). -/
def State.selftestAdvance (s : State) (a : Nat) (done next : TestKind) (phase : StPhase) : State :=
  ((s.setTxReq a done false).setTxReq a next true).modifySat a fun x =>
    { x with stPhase := phase, stCnt := BitVec.ofNat 16 s.cfg.selftestPhaseCycles }

/-- The end of the current phase of satellite `a` (R232, R233, R234). -/
def State.selftestPhaseEnd (s : State) (a : Nat) : State :=
  match (s.sat a).stPhase with
  | .idle => s
  | .srv =>
    if (s.sat a).test.tremcrc = 0 then s.selftestFinish a .serverCrcFailure
    else s.selftestAdvance a .srv .cli .cli
  | .cli =>
    if (s.sat a).test.trxcrc = 0 then s.selftestFinish a .clientCrcFailure
    else s.selftestAdvance a .cli .wd .wd
  | .wd =>
    if (s.sat a).test.twd = 0 then s.selftestFinish a .watchdogFailure
    else s.selftestFinish a .success

/-- The self-test step of satellite `a` (R231). DEDUCED: every SEQ that finds the test running takes one cycle off its
phase, and no other step does; a test started after the SEQ of a cycle then injects for a whole phase from the next
cycle on, where R240 gives every start after ENCODE one injecting cycle fewer (log 30). -/
def State.selftestStep (s : State) (a : Nat) : State :=
  if (s.sat a).stPhase = .idle then s
  else
    let s1 := s.modifySat a fun x => { x with stCnt := x.stCnt - 1 }
    if (s1.sat a).stCnt = 0 then s1.selftestPhaseEnd a else s1

end Sys2Proof.Machine
end

