-- ==== Sys2Proof/Machine/Transport.lean ====
section
/-! DEFINITION. The bit transport: the pulse encoder and decoder (spec/41_bit_transport.md R130, R134 to R142). -/

namespace Sys2Proof.Machine

open Sys2Proof.Config (Params)

/-- The 64 bits of a frame in wire order: bytes 0 to 7, each MSB first (spec/20_memory.md R69, R70). -/
def frameBits (w : FrameWord) : List Bool := (List.range 64).map fun i => w.getLsbD (63 - i)

/-- The frame that bits in wire order make up (R139). -/
def frameOfBits (bits : List Bool) : FrameWord :=
  bits.foldl (fun acc b => (acc <<< 1) ||| (BitVec.ofBool b).setWidth 64) 0

/-- The pulse of one bit: a mark at the active level, a space at IDLE_LEVEL (spec/30_encoding.md R88). -/
def bitPulse (p : Params) (b : Bool) : Pulse :=
  if b then ⟨!p.idleLevel, p.t1h, p.idleLevel, p.t1l⟩ else ⟨!p.idleLevel, p.t0h, p.idleLevel, p.t0l⟩

/-- `pulses(burst)` (R130). -/
def pulses (p : Params) (burst : List FrameWord) : List Pulse :=
  burst.flatMap fun w => (frameBits w).map (bitPulse p)

/-- The result of the receive decoder (R134). -/
inductive RxResult where
  | symbolError
  | sizeError
  | ok (bits : List Bool)
deriving DecidableEq, Repr

/-- The logic value of a high time, `none` in neither band (R135). -/
def classify (p : Params) (h : Nat) : Option Bool :=
  if p.b1Min ≤ h ∧ h ≤ p.b1Max then some true
  else if p.b0Min ≤ h ∧ h ≤ p.b0Max then some false
  else none

/-- The total period of a pulse is in its band (R136). -/
def periodOk (p : Params) (x : Pulse) : Bool :=
  decide (p.tpMin ≤ x.markTicks + x.spaceTicks) && decide (x.markTicks + x.spaceTicks ≤ p.tpMax)

/-- The bits of a list of pulses, `none` for a symbol error: the first pulse that fails the classification, or the
period check that every pulse but the last has to pass, ends the decoding (R134, R135, R136, R142). -/
def depulseBits (p : Params) : List Pulse → Option (List Bool)
  | [] => some []
  | x :: xs =>
    match classify p x.markTicks with
    | none => none
    | some v =>
      if !xs.isEmpty && !periodOk p x then none
      else (depulseBits p xs).map (v :: ·)

/-- The first pulse's space is at the wrong level: a framing error (R137). -/
def framingError (p : Params) : List Pulse → Bool
  | [] => false
  | x :: _ => x.spaceLevel != p.idleLevel

/-- `depulse(rx, expected)` (R134; NONE is a burst of no pulses, R140; the size check comes last, R141). -/
def depulse (p : Params) (rx : RxBurst) (expected : Nat) : RxResult :=
  let xs := rx.getD []
  if framingError p xs then .symbolError
  else
    match depulseBits p xs with
    | none => .symbolError
    | some bits => if bits.length = expected then .ok bits else .sizeError

end Sys2Proof.Machine
end

