-- ==== Sys2Proof/Machine/Scan.lean ====
section
/-! DEFINITION. The scan engine: the micro-steps of the scan cycle (spec/42_scan_engine.md). -/

namespace Sys2Proof.Machine

/-- The number of active slots, `S.noOfSats` (spec/00_scope.md R14). -/
def State.activeSlots (s : State) : Nat := s.link.noOfSats.toNat

/-! ## WAIT -/

/-- WAIT: left when `now() ≥ S.periodBase`; while waiting only the CLOCK is asked (R175; log 14). -/
def State.scanWait (s : State) : State :=
  let s1 := s.tick
  if s1.time.periodBase ≤ s1.env.clock then s1.setPhase .encode else s1

/-! ## ENCODE -/

/-- The countdown of the active slots' test modes (R151). -/
def State.countdownModes (s : State) : State :=
  s.setSlots <| s.slots.mapIdx fun i sl =>
    if i < s.activeSlots then { sl with tm := sl.tm.map TestMode.countdown } else sl

/-- `resolve_test_modes` of a slot (R153). -/
def Slot.resolveModes (nDeact : Nat) (sl : Slot) : Slot :=
  { sl with
    tm :=
      { srv := sl.tm.srv.resolve nDeact sl.txReq.srv
        cli := sl.tm.cli.resolve nDeact sl.txReq.cli
        wd := sl.tm.wd.resolve nDeact sl.txReq.wd } }

/-- Slot `i` is that of an existing, WORKING satellite (R155, R159). -/
def State.satWorking (s : State) (i : Nat) : Bool := s.satPresent i && decide ((s.sat i).op = 0)

/-- `tx_fields(s)` of slot `i` (R155): `sl` is the slot, `working` whether its satellite exists and is WORKING. -/
def txFields (i : Nat) (sl : Slot) (working : Bool) : WireFrame where
  sensorValue := 0
  actuatorValue := sl.txActVal
  actuatorMode := sl.txActMode
  cmdWatchdogErrorTest := sl.tm.wd.isActive
  cmdEnable := sl.txEnableReq && working
  cmdInvertCrc := sl.tm.cli.isActive
  startMark := decide (i = 0)
  fbReserved := 0
  fbWatchdogError := false
  fbRemoteCrcError := false
  crc := 0

/-- A dirty slot encoded (R152). -/
def Slot.encodeTx (p : Config.Params) (i : Nat) (working : Bool) (sl : Slot) : Slot :=
  let sl1 := sl.resolveModes p.nDeact
  { sl1 with
    txBytes := encodeFrame p (txFields i sl1 working) sl1.tm.srv.isActive
    txDirty := false }

/-- Every dirty active slot encoded (R152). -/
def State.encodeSlots (s : State) : State :=
  s.setSlots <| s.slots.mapIdx fun i sl =>
    if i < s.activeSlots ∧ sl.txDirty then sl.encodeTx s.cfg i (s.satWorking i) else sl

/-- ENCODE (R150 to R153). -/
def State.scanEncode (s : State) : State :=
  ((s.discoveryStart.countdownModes).encodeSlots).setPhase .txrx

/-! ## TXRX -/

/-- The frames of the active slots, in ascending order (R154, spec/20_memory.md R70). -/
def State.txFrames (s : State) : List FrameWord := (s.slots.take s.activeSlots).map (·.txBytes)

/-- TXRX (R154; without active slots nothing is sent or received, spec/41_bit_transport.md R143). -/
def State.scanTxrx (s : State) : State :=
  if s.activeSlots = 0 then
    ((s.setCyc { sym := false, size := false, rxBuf := [] }).setLine { s.line with txBurst := [] }).setPhase .process
  else
    let s1 := s.setLine { level := s.cfg.idleLevel, txBurst := pulses s.cfg s.txFrames }
    let cyc : CycleRegs :=
      match depulse s.cfg s1.busAnswer (64 * s.activeSlots) with
      | .symbolError => { sym := true, size := false, rxBuf := [] }
      | .sizeError => { sym := false, size := true, rxBuf := [] }
      | .ok bits => { sym := false, size := false, rxBuf := bits }
    (s1.busAdvance.setCyc cyc).setPhase .process

/-! ## PROCESS -/

/-- `latch` on slot `i` (R160). -/
def State.latchStatus (s : State) (i : Nat) (flags : Status) : State :=
  s.modifySlot i fun sl => { sl with status := sl.status.latch flags }

/-- STATUS_NOTIFY of slot `i`, for an existing satellite (R156, R158, R165). -/
def State.notifyStatus (s : State) (i : Nat) : State :=
  if s.satPresent i then s.emit (.statusNotify i (s.slot i).status.bits) else s

/-- The transport error's flags latched into slot `i` (R156). -/
def State.processBadSlot (s : State) (i : Nat) : State :=
  (s.latchStatus i
    { Status.zero with rxSymbolError := s.cyc.sym, rxDataSizeError := s.cyc.size }).notifyStatus i

/-- PROCESS with a transport error (R156). -/
def State.processBad (s : State) : State :=
  let s1 := if s.cyc.sym then s.countLink .sym else s
  let s2 := if s.cyc.size then s1.countLink .size else s1
  (List.range s.activeSlots).foldl (fun t i => t.processBadSlot i) s2

/-- `test_route(a, k)` (R161, R162). -/
def State.testRoute (s : State) (a : Nat) (k : TestKind) : Bool :=
  let m := (s.slot a).tm.get k
  m.isActive || (s.cfg.routeDeactAsTest && m.isDeactivating)

/-- One error of satellite `a`, counted as a test's or as genuine (R161). -/
def State.routeOne (s : State) (a : Nat) (k : SatKind) : State :=
  if s.testRoute a k.testKind then s.modifySat a fun x => { x with test := x.test.inc k.testCounter }
  else s.countSat a k

/-- `route(a, eCrc, eRem, eWd)` (R161), in the order RXCRC, REMCRC, WD (spec/60_exceptions.md R290). -/
def State.route (s : State) (a : Nat) (eCrc eRem eWd : Bool) : State :=
  let s1 := if eCrc then s.routeOne a .rxcrc else s
  let s2 := if eRem then s1.routeOne a .remcrc else s1
  if eWd then s2.routeOne a .wd else s2

/-- Bad status of slot `i` (R158). -/
def State.badStatus (s : State) (i : Nat) (eCrc eRem eWd : Bool) : State :=
  let s1 := s.latchStatus i { Status.zero with watchdogError := eWd, remoteCrcError := eRem, rxCrcError := eCrc }
  if s1.satPresent i then (s1.route i eCrc eRem eWd).notifyStatus i else s1

/-- Good status of slot `i` (R159). -/
def State.goodStatus (s : State) (i : Nat) (changed : Bool) (sensor : Byte) : State :=
  if changed && s.satWorking i then s.emit (.sensorRaw i sensor) else s

/-- The frame that slot `i` received in this cycle (R157, spec/41_bit_transport.md R139). -/
def State.receivedFrame (s : State) (i : Nat) : FrameWord :=
  frameOfBits ((s.cyc.rxBuf.drop (64 * i)).take 64)

/-- PROCESS of slot `i` without a transport error (R157). -/
def State.processSlot (s : State) (i : Nat) : State :=
  let b := s.receivedFrame i
  let (f, changed) := decodeFrame s.cfg b (sensorOf s.cfg (s.slot i).rxBytes)
  let s1 := s.modifySlot i fun sl => { sl with rxBytes := b }
  let eCrc := !crcOk s.cfg b
  if eCrc || f.fbRemoteCrcError || f.fbWatchdogError then
    s1.badStatus i eCrc f.fbRemoteCrcError f.fbWatchdogError
  else s1.goodStatus i changed f.sensorValue

/-- PROCESS (R156, R157). -/
def State.scanProcess (s : State) : State :=
  let s1 :=
    if s.cyc.sym || s.cyc.size then s.processBad
    else (List.range s.activeSlots).foldl (fun t i => t.processSlot i) s
  s1.setPhase .budget

/-! ## BUDGET -/

/-- The Link's high check, with the sum of the start of BUDGET (R167, R172). -/
def State.linkHighCheck (s : State) (sum : Nat) : State :=
  if !hasBit s.link.op opErrorSecond && decide (s.link.thresHigh.toNat ≤ sum) then s.opBlock .link opErrorSecond
  else s

/-- A satellite's high check (R168, R172). -/
def State.satHighCheck (s : State) (a sum : Nat) : State :=
  if !hasBit (s.sat a).op opErrorSecond && decide ((s.sat a).thresHigh.toNat ≤ sum) then
    s.opBlock (.sat a) opErrorSecond
  else s

/-- The Link's low check at a boundary (R170, R172). -/
def State.linkLowCheck (s : State) (sum : Nat) : State :=
  if hasBit s.link.op opErrorSecond && decide (sum ≤ s.link.thresLow.toNat) then s.opDeBlock .link opErrorSecond
  else s

/-- A satellite's low check at a boundary (R170, R172). -/
def State.satLowCheck (s : State) (a sum : Nat) : State :=
  if hasBit (s.sat a).op opErrorSecond && decide (sum ≤ (s.sat a).thresLow.toNat) then
    s.opDeBlock (.sat a) opErrorSecond
  else s

/-- The window reset at a boundary (R171). -/
def State.windowReset (s : State) (t5 : Nat) : State :=
  let s1 := s.setLink { s.link with sec := LinkCounters.zero }
  let s2 := s1.setSats (s1.sats.map fun x => { x with sec := SatCounters.zero })
  s2.setTime { s2.time with secBase := t5 }

/-- BUDGET (R167 to R172): `s` gives every sum, as it was at the start. -/
def State.scanBudget (s : State) : State :=
  let s0 := s.tick
  let t5 := s0.env.clock
  let s1 := s0.setTime { s0.time with t5 := t5 }
  let s2 := s1.linkHighCheck s.link.sec.sum
  let s3 := s2.forEachSat fun a t => t.satHighCheck a (s.sat a).sec.sum
  let s4 :=
    if s.time.secBase + 1000 ≤ t5 then
      ((s3.linkLowCheck s.link.sec.sum).forEachSat fun a t => t.satLowCheck a (s.sat a).sec.sum).windowReset t5
    else s3
  s4.setPhase .seq

/-! ## SEQ -/

/-- The re-establishment check (spec/44_state_machine.md R221). -/
def State.reestCheck (s : State) : State :=
  if s.reest.armed && decide (s.reest.deadline ≤ s.time.t5) then
    let s1 := s.setReest { s.reest with armed := false }
    if hasBit s.link.op (opFail ||| opErrorSecond) && decide (s.link.adm = .enable)
        && decide (s.disc.state = .idle) && !s.disc.pending then
      s1.setDisc { s1.disc with pending := true }
    else s1
  else s

/-- SEQ (R176). -/
def State.scanSeq (s : State) : State :=
  ((s.discoveryStep.forEachSat fun a t => t.selftestStep a).reestCheck).setPhase .timing

/-! ## TIMING -/

/-- TIMING (R173, R174). -/
def State.scanTiming (s : State) : State :=
  let s1 := s.tick
  let t6 := s1.env.clock
  let next := s1.time.periodBase + s1.conf.scanInterval.toNat
  let rem : Int := (next : Int) - t6
  let s2 :=
    if 0 < rem then s1.setTime { s1.time with periodBase := next }
    else (s1.countLink .timing).setTime { s1.time with periodBase := t6 }
  s2.setPhase .wait

/-! ## The SCAN agent -/

/-- One micro-step of the SCAN agent (R150). -/
def State.scanStep (s : State) : State :=
  match s.scanPhase with
  | .wait => s.scanWait
  | .encode => s.scanEncode
  | .txrx => s.scanTxrx
  | .process => s.scanProcess
  | .budget => s.scanBudget
  | .seq => s.scanSeq
  | .timing => s.scanTiming

end Sys2Proof.Machine
end

