-- ==== Sys2Proof/Machine/Agents.lean ====
section
/-! DEFINITION. Which agent steps next and what its step does (spec/00_scope.md R8, spec/20_memory.md R74), and the
reset input (spec/70_reset_and_hazards.md R301). -/

namespace Sys2Proof.Machine

/-- What happens next: the first input already chosen, or else a free value (spec/20_memory.md R74; log 1). -/
def State.input (s : State) : Input :=
  match s.env.agenda with
  | i :: _ => i
  | [] => Config.nextInput s.env.draws

/-- That input taken. -/
def State.inputTaken (s : State) : State :=
  match s.env.agenda with
  | _ :: rest => s.setEnv { s.env with agenda := rest }
  | [] => s.setEnv { s.env with draws := s.env.draws + 1 }

/-- The reset input asserted and released: every piece of state takes its value at reset, with the `now()` read after
the release; the environment goes on (spec/70_reset_and_hazards.md R301, spec/10_state.md R50; log 12). -/
def State.resetInput (s : State) : State :=
  let s1 := s.tick
  (State.resetWith s1.cfg s1.env.clock).setEnv s1.env

/-- The step that an input asks for. -/
def runInput (i : Input) (s : State) : Host.Outcome State Fault Refusal :=
  match i with
  | .scan => .next s.scanStep
  | .host a => hostAccess a s
  | .reset => .next s.resetInput

/-- A machine built for a configuration, where it is legal (spec/00_scope.md R7,
spec/93_implementation_defined.md I6). -/
def State.construct (p : Config.Params) (t : Nat) : Except Refusal State :=
  if p.legal then .ok (State.resetWith p t) else .error .illegalConfiguration

end Sys2Proof.Machine
end

