-- ==== Sys2Proof/Machine/Step.lean ====
section
/-! DEFINITION. One step of the machine. -/

namespace Sys2Proof.Machine

/-- One atomic step of one agent (spec/20_memory.md R72, R74): the next input is taken and its step made. -/
def step (s : State) : Host.Outcome State Fault Refusal := runInput s.input s.inputTaken

/-- The command of the `nbits` low bits of `w` where the machine takes its next command from: the HOST agent's next
access writes that word to CMD (spec/20_memory.md R65; log 2). -/
def State.withFetchWord (s : State) (nbits w : Nat) : State := s.pushCommand (BitVec.ofNat 32 (w % 2 ^ nbits))

end Sys2Proof.Machine
end

