-- ==== Sys2Proof/WellFormed.lean ====
section
/-! DEFINITION. Which command words are well formed: the conditions of spec/30_encoding.md R93, R95 and R98 that the
word alone decides (R99). An ill-formed word still runs; it ends with BadParameter (spec/46_host_commands.md R250). -/

namespace Sys2Proof

/-- The fields an opcode uses (the table of spec/30_encoding.md R92). -/
structure UsedFields where
  sat : Bool := false
  ch : Bool := false
  kindSelRst : Bool := false
deriving DecidableEq, Repr

/-- Every field the opcode does not use, and the reserved bits, are 0 (spec/30_encoding.md R93). -/
def CmdFields.unusedZero (f : CmdFields) (u : UsedFields) : Bool :=
  decide (f.rsv = 0) && (u.sat || decide (f.sat = 0)) && (u.ch || decide (f.ch = 0))
    && (u.kindSelRst || (decide (f.kind = 0) && !f.sel && !f.rst))

/-- CH is a legal channel, 0 to 3 (spec/30_encoding.md R94). -/
def CmdFields.channelLegal (f : CmdFields) : Bool := decide (f.ch.toNat ≤ 3)

/-- KIND is legal for RDLINKCNT (spec/30_encoding.md R95). -/
def CmdFields.linkKindLegal (f : CmdFields) : Bool := decide (f.kind.toNat ≤ 5)

/-- KIND and SEL are legal for RDSATCNT (spec/30_encoding.md R95, R96). -/
def CmdFields.satKindLegal (f : CmdFields) : Bool :=
  (decide (2 ≤ f.kind.toNat) && decide (f.kind.toNat ≤ 4))
    || (decide (6 ≤ f.kind.toNat) && decide (f.kind.toNat ≤ 8) && !f.sel)

/-- A well-formed command: no unused field set and no operand in the word out of range
(spec/30_encoding.md R93, R95, R98). The rows of illegal opcodes constrain no field (R267). -/
def Instr.wellFormed : Instr → Bool
  | .nop f => f.unusedZero {}
  | .setactval f => f.unusedZero { sat := true, ch := true } && f.channelLegal
  | .setactmode f => f.unusedZero { sat := true, ch := true } && f.channelLegal
  | .setsaten f => f.unusedZero { sat := true }
  | .linkenable f => f.unusedZero {}
  | .linkdisable f => f.unusedZero {}
  | .satenable f => f.unusedZero { sat := true }
  | .satdisable f => f.unusedZero { sat := true }
  | .selftest f => f.unusedZero { sat := true }
  | .setlinkthres f => f.unusedZero {}
  | .setsatthres f => f.unusedZero { sat := true }
  | .rdlinkcnt f => f.unusedZero { kindSelRst := true } && f.linkKindLegal
  | .rdsatcnt f => f.unusedZero { sat := true, kindSelRst := true } && f.satKindLegal
  | .rdsatstate f => f.unusedZero { sat := true }
  | .consumestatus f => f.unusedZero { sat := true }
  | .illegal0f _ => true
  | .illegal1x _ _ => true
  | .illegal2x _ _ => true
  | .illegal4x _ _ => true
  | .illegal8x _ _ => true

end Sys2Proof
end

