-- ==== Sys2Proof/Safety.lean ====
section
/-! DEFINITION. What counts as a sound state of the SLC: the invariants that spec/ states or implies, each a
predicate over any state. The statements of Certificates/ are made in these terms. -/

namespace Sys2Proof.Machine

/-- The state fits its configuration: a legal configuration (spec/00_scope.md R7), NSLOT slots and MAX_SATS
satellites (spec/10_state.md R28, R36), configuration registers as loaded at reset (R23), and a transmit line at
IDLE_LEVEL between bursts (spec/41_bit_transport.md R131). -/
structure State.Shape (s : State) : Prop where
  legal : s.cfg.legal = true
  slots : s.slots.length = s.cfg.nSlot
  sats : s.sats.length = s.cfg.maxSats
  scanInterval : s.conf.scanInterval = BitVec.ofNat 8 s.cfg.scanIntervalMs
  maxSats : s.conf.maxSats = BitVec.ofNat 8 s.cfg.maxSats
  linkAddr : s.conf.linkAddr = BitVec.ofNat 8 s.cfg.linkAddr
  line : s.line.level = s.cfg.idleLevel

/-- The TYPE of an event word (spec/30_encoding.md R104). -/
def eventType (w : Word) : Nat := (w.extractLsb' 28 4).toNat

/-- The event queue never exceeds EVQ_DEPTH (spec/60_exceptions.md R288), and holds only events of TYPE 1 to 6
(spec/30_encoding.md R104). -/
structure State.QueueSound (s : State) : Prop where
  bounded : ∀ d, s.cfg.evqDepth = some d → s.evq.length ≤ d
  types : ∀ w ∈ s.evq, 1 ≤ eventType w ∧ eventType w ≤ 6

/-- Every threshold pair has low < high (spec/00_scope.md R7, spec/46_host_commands.md R261, R262). -/
structure State.ThresholdsOrdered (s : State) : Prop where
  link : s.link.thresLow < s.link.thresHigh
  sats : ∀ x ∈ s.sats, x.thresLow < x.thresHigh

/-- The cascading invariant: an existing satellite has CONTROL_BLOCKED exactly when the Link is not WORKING
(spec/44_state_machine.md R224); the Link never has CONTROL_BLOCKED and no satellite INIT (R225). -/
structure State.Cascaded (s : State) : Prop where
  blocked : ∀ a, s.satPresent a = true → (hasBit (s.sat a).op opControlBlocked = true ↔ s.link.op ≠ 0)
  linkNever : hasBit s.link.op opControlBlocked = false
  satNever : ∀ x ∈ s.sats, hasBit x.op opInit = false

/-- DISABLED is set exactly while the adm-state is DISABLE (spec/44_state_machine.md R215, R216, R225). -/
structure State.AdmSound (s : State) : Prop where
  link : hasBit s.link.op opDisabled = true ↔ s.link.adm = .disable
  sats : ∀ x ∈ s.sats, hasBit x.op opDisabled = true ↔ x.adm = .disable

/-- The discovery sequencer owns the satellites while it runs: INIT is set, every slot is active, no satellite exists
(spec/43_discovery.md R201, spec/20_memory.md R79) and its counter has not run out; while it does not run, the
satellites that exist are those at the active slots (spec/10_state.md R36). -/
structure State.DiscoverySound (s : State) : Prop where
  running : s.disc.state ≠ .idle →
    hasBit s.link.op opInit = true ∧ s.activeSlots = s.cfg.maxSats + 1 ∧ (∀ a, s.satPresent a = false)
      ∧ s.disc.cnt ≠ 0
  probe : s.disc.state = .probe → s.disc.cnt.toNat ≤ 2 * s.cfg.settleCycles
  clear : s.disc.state = .clear → s.disc.cnt.toNat ≤ s.cfg.settleCycles ∧ s.disc.result.toNat ≤ s.cfg.maxSats
  idle : s.disc.state = .idle →
    s.activeSlots ≤ s.cfg.maxSats ∧ ∀ a, s.satPresent a = true ↔ a < s.activeSlots

/-- A test mode whose count is in 1..N_DEACT (spec/10_state.md R33). -/
def TestMode.inRange (nDeact : Nat) : TestMode → Prop
  | .deactivating n => 1 ≤ n.toNat ∧ n.toNat ≤ nDeact
  | _ => True

/-- Every DEACTIVATING count is in 1..N_DEACT (spec/10_state.md R33), and no slot beyond the active ones is left in a
test mode (spec/43_discovery.md R197). -/
structure State.ModesSound (s : State) : Prop where
  counts : ∀ sl ∈ s.slots, ∀ k, (sl.tm.get k).inRange s.cfg.nDeact
  inactive : ∀ i, s.activeSlots ≤ i → ∀ k, (s.slot i).tm.get k = .inactive

/-- A self-test runs only on an existing satellite and with its cycle count in 1..SELFTEST_PHASE_CYCLES; where none
runs the sequencer is at rest (spec/10_state.md R44, spec/45_selftest.md R231, R235). -/
structure State.SelftestsSound (s : State) : Prop where
  running : ∀ x ∈ s.sats, x.stPhase ≠ .idle →
    x.present = true ∧ 1 ≤ x.stCnt.toNat ∧ x.stCnt.toNat ≤ s.cfg.selftestPhaseCycles
  atRest : ∀ x ∈ s.sats, x.stPhase = .idle → x.stCnt = 0 ∧ x.stImplicit = false

/-- The time bases never run ahead of the CLOCK agent: the window starts no later than the last BUDGET, that no later
than now (spec/10_state.md R50, spec/42_scan_engine.md R171); a period starts at most one scan interval from now, and
once WAIT is left it has started (R174, R175); a re-establishment comes at most T_REESTABLISH_MS from now
(spec/44_state_machine.md R220). -/
structure State.TimesSound (s : State) : Prop where
  window : s.time.secBase ≤ s.time.t5
  budget : s.time.t5 ≤ s.env.clock
  period : s.time.periodBase ≤ s.env.clock + s.conf.scanInterval.toNat
  started : s.scanPhase ≠ .wait → s.time.periodBase ≤ s.env.clock
  reest : s.reest.deadline ≤ s.env.clock + s.cfg.tReestablishMs

/-- Between TXRX and PROCESS a burst without a transport error has brought 64 bits for every active slot, and one
cycle never reports both transport errors (spec/41_bit_transport.md R141). -/
structure State.CycleSound (s : State) : Prop where
  one : ¬ (s.cyc.sym = true ∧ s.cyc.size = true)
  bits : s.scanPhase = .process → s.cyc.sym = false → s.cyc.size = false →
    s.cyc.rxBuf.length = 64 * s.activeSlots

/-- The request that a self-test phase makes (spec/45_selftest.md R230, R232, R233). -/
def StPhase.requests : StPhase → PerTest Bool
  | .idle => noRequests
  | .srv => { noRequests with srv := true }
  | .cli => { noRequests with cli := true }
  | .wd => { noRequests with wd := true }

/-- The requests that stand at slot `i`: the probe's while discovery probes (spec/43_discovery.md R193, R196), else
those of its satellite's self-test phase. -/
def State.expectedRequests (s : State) (i : Nat) : PerTest Bool :=
  if s.disc.state = .probe then { noRequests with srv := true } else (s.sat i).stPhase.requests

/-- Test requests are made by the discovery probe and the self-test phases alone (spec/10_state.md R30). -/
def State.RequestsSound (s : State) : Prop :=
  ∀ i sl, s.slots[i]? = some sl → sl.txReq = s.expectedRequests i

/-- What stands ready for the wire is current: a slot that is not dirty holds the encoding of its fields, its
satellite's state and its test modes (spec/10_state.md R31, R32, spec/42_scan_engine.md R152, R155), each mode ACTIVE
exactly while its request is set (R153). -/
structure State.WireCurrent (s : State) : Prop where
  encoded : ∀ i sl, s.slots[i]? = some sl → sl.txDirty = false →
    sl.txBytes = encodeFrame s.cfg (txFields i sl (s.satWorking i)) sl.tm.srv.isActive
  resolved : ∀ sl ∈ s.slots, sl.txDirty = false → ∀ k, (sl.tm.get k = .active ↔ sl.txReq.get k = true)

/-- Every invariant of this file. -/
structure State.Sound (s : State) : Prop where
  shape : s.Shape
  queue : s.QueueSound
  thresholds : s.ThresholdsOrdered
  cascaded : s.Cascaded
  adm : s.AdmSound
  discovery : s.DiscoverySound
  modes : s.ModesSound
  selftests : s.SelftestsSound
  times : s.TimesSound
  cycle : s.CycleSound
  requests : s.RequestsSound
  wire : s.WireCurrent

/-! ## Words the statements use -/

/-- `s` with RESULT and RDATA written and nothing else changed (spec/46_host_commands.md R250). -/
def State.ended (s : State) (code : Byte) (data : Word) : State :=
  { s with host := { s.host with result := code, rdata := data } }

/-- The existing satellites in ascending order: the children of the Link (spec/44_state_machine.md R211). -/
def State.children (s : State) : List Nat := s.addresses.filter fun a => s.satPresent a

/-- Events emitted one after another (spec/60_exceptions.md R287). -/
def State.emitAll (s : State) (l : List Event) : State := l.foldl State.emit s

/-- A counter one higher, stopped at 0xFFFFFFFF (spec/42_scan_engine.md R161). -/
def onceMore (v : BitVec 32) : BitVec 32 := BitVec.ofNat 32 (min (v.toNat + 1) 0xFFFFFFFF)

/-- A command leaves the machine in `t`, and in `t` everything is as in `s` but the slots and RESULT = OK with
RDATA 0. -/
def SlotsOnly (s t : State) : Prop :=
  t.host = { s.host with result := 0x00, rdata := 0 } ∧ { t with slots := s.slots, host := s.host } = s

/-- The same for the satellites. -/
def SatsOnly (s t : State) : Prop :=
  t.host = { s.host with result := 0x00, rdata := 0 } ∧ { t with sats := s.sats, host := s.host } = s

/-- The result codes that a command can end with (the table of spec/60_exceptions.md R281). -/
def resultCodes : Instr → List Byte
  | .nop _ => [0x00, 0x06]
  | .setactval _ | .setactmode _ | .setsaten _ => [0x00, 0x06, 0x05]
  | .linkenable _ => [0x00, 0x06, 0x01]
  | .linkdisable _ => [0x00, 0x06, 0x01, 0x02]
  | .satenable _ => [0x00, 0x06, 0x05, 0x01, 0x02]
  | .satdisable _ => [0x00, 0x06, 0x05, 0x01]
  | .selftest _ => [0x00, 0x06, 0x05, 0x01, 0x03]
  | .setlinkthres _ => [0x00, 0x06]
  | .setsatthres _ => [0x00, 0x06, 0x05]
  | .rdlinkcnt _ => [0x00, 0x06]
  | .rdsatcnt _ | .rdsatstate _ | .consumestatus _ => [0x00, 0x06, 0x05]
  | .illegal0f _ | .illegal1x _ _ | .illegal2x _ _ | .illegal4x _ _ | .illegal8x _ _ => [0x06]

/-- The commands that use ARG (the table of spec/30_encoding.md R92). -/
def usesArg : Instr → Bool
  | .setactval _ | .setactmode _ | .setsaten _ | .setlinkthres _ | .setsatthres _ => true
  | _ => false

/-- ARG is in range for the command that uses it (spec/30_encoding.md R93, R98). -/
def argInRange (x : Word) : Instr → Bool
  | .setactval _ => decide (x.toNat < 256)
  | .setactmode _ => decide (x.toNat < 8)
  | .setsaten _ => decide (x.toNat < 2)
  | .setlinkthres _ | .setsatthres _ => decide (x.extractLsb' 0 16 < x.extractLsb' 16 16)
  | _ => true

/-- The commands that address a satellite (spec/46_host_commands.md R251). -/
def addressesSat : Instr → Bool
  | .setactval _ | .setactmode _ | .setsaten _ | .satenable _ | .satdisable _ | .selftest _ | .setsatthres _
  | .rdsatcnt _ | .rdsatstate _ | .consumestatus _ => true
  | _ => false

/-- The fields that the opcode of a command uses, `none` for an illegal opcode (the table of spec/30_encoding.md
R92). -/
def usedFields : Instr → Option UsedFields
  | .nop _ | .linkenable _ | .linkdisable _ | .setlinkthres _ => some {}
  | .setactval _ | .setactmode _ => some { sat := true, ch := true }
  | .setsaten _ | .satenable _ | .satdisable _ | .selftest _ | .setsatthres _ | .rdsatstate _
  | .consumestatus _ => some { sat := true }
  | .rdlinkcnt _ => some { kindSelRst := true }
  | .rdsatcnt _ => some { sat := true, kindSelRst := true }
  | .illegal0f _ | .illegal1x _ _ | .illegal2x _ _ | .illegal4x _ _ | .illegal8x _ _ => none

end Sys2Proof.Machine
end

