-- ==== Sys2Proof/Certificates/Slice0/Obligations.lean ====
section
/-! DEFINITION. The statements for the provers. -/

section Statements

open Sys2Proof Sys2Proof.Machine Sys2Proof.Config

/-! ## Encoding, and how a command is reached -/

/-- Decoding the encoding of a command gives the command back, every field at every value, as a word and as four
bytes (spec/30_encoding.md R91, R92, R99). -/
def Obligations.DecodeOfEncode : Prop :=
  ∀ i : Instr, decodeWord (encode i) = i ∧ decodeBytes (wordBytes (encode i)) = .ok i

/-- Every 32-bit word is the encoding of exactly the command it decodes to (spec/30_encoding.md R91, R92, R99). -/
def Obligations.EncodeOfDecode : Prop :=
  ∀ w : Word, encode (decodeWord w) = w ∧ decodeTableWord 32 w.toNat = some (decodeWord w)

/-- Words that spec/46_host_commands.md writes out in its examples decode to the commands it names. -/
def Obligations.WordsOfTheSpecDecode : Prop :=
  decodeWord 0x00000000#32 = .nop ⟨0, 0, 0, false, false, 0⟩
    ∧ decodeWord 0x00030201#32 = .setactval ⟨2, 3, 0, false, false, 0⟩
    ∧ decodeWord 0x00000102#32 = .setactmode ⟨1, 0, 0, false, false, 0⟩
    ∧ decodeWord 0x00000004#32 = .linkenable ⟨0, 0, 0, false, false, 0⟩
    ∧ decodeWord 0x00000308#32 = .selftest ⟨3, 0, 0, false, false, 0⟩
    ∧ decodeWord 0x0320000B#32 = .rdlinkcnt ⟨0, 0, 2, true, true, 0⟩
    ∧ decodeWord 0x0060030C#32 = .rdsatcnt ⟨3, 0, 6, false, false, 0⟩
    ∧ decodeWord 0x000000FF#32 = .illegal8x 0x7F ⟨0, 0, 0, false, false, 0⟩

/-- A step in which the host writes the word of a command to CMD is the command's meaning at that state; around it
the step only takes the environment's choice. `withFetchWord` places such a write (logs 1 and 2). -/
def Obligations.StepRunsTheDecodedCommand : Prop :=
  (∀ s : State, { s.inputTaken with env := s.env } = s)
    ∧ (∀ (s : State) (i : Instr), s.input = .host (.write 0x00 4 (encode i)) → step s = exec i s.inputTaken)
    ∧ ∀ (s : State) (i : Instr), step (s.withFetchWord 32 (encode i).toNat) = exec i s

/-! ## What every command obeys -/

/-- R267: an illegal opcode ends with BadParameter and changes nothing but RESULT and RDATA. -/
def Obligations.IllegalOpcodesEndWithBadParameter : Prop :=
  ∀ s : State,
    (∀ f, exec (.illegal0f f) s = .next (s.ended 0x06 0))
      ∧ (∀ lo f, exec (.illegal1x lo f) s = .next (s.ended 0x06 0))
      ∧ (∀ lo f, exec (.illegal2x lo f) s = .next (s.ended 0x06 0))
      ∧ (∀ lo f, exec (.illegal4x lo f) s = .next (s.ended 0x06 0))
      ∧ (∀ lo f, exec (.illegal8x lo f) s = .next (s.ended 0x06 0))
      ∧ ∀ w : Word, 0x0F#8 ≤ w.extractLsb' 0 8 → exec (decodeWord w) s = .next (s.ended 0x06 0)

/-- R93: a field the opcode does not use, a reserved bit, or an unused bit of an ARG that is used, where it is not 0,
ends the command with BadParameter and no other effect; a command that does not use ARG does not depend on it. -/
def Obligations.UnusedBitsAreChecked : Prop :=
  (∀ (s : State) (i : Instr) (u : UsedFields), usedFields i = some u → i.fields.unusedZero u = false →
      exec i s = .next (s.ended 0x06 0))
    ∧ (∀ (s : State) (f : CmdFields),
        (256 ≤ s.host.arg.toNat → exec (.setactval f) s = .next (s.ended 0x06 0))
          ∧ (8 ≤ s.host.arg.toNat → exec (.setactmode f) s = .next (s.ended 0x06 0))
          ∧ (2 ≤ s.host.arg.toNat → exec (.setsaten f) s = .next (s.ended 0x06 0)))
    ∧ ∀ (s : State) (i : Instr) (v : Word), usesArg i = false →
        ∃ t, exec i s = .next t
          ∧ exec i { s with host := { s.host with arg := v } }
            = .next { t with host := { t.host with arg := v } }

/-- R251: a command that addresses a satellite which does not exist ends with NotFound once its word and its ARG
have passed their checks, whatever the state. -/
def Obligations.AbsentSatelliteIsNotFound : Prop :=
  ∀ (s : State) (i : Instr), addressesSat i = true → i.wellFormed = true → argInRange s.host.arg i = true →
    (s.cfg.maxSats ≤ i.fields.sat.toNat ∨ (s.sat i.fields.sat.toNat).present = false) →
    exec i s = .next (s.ended 0x05 0)

/-- Every command completes in its own step, and one that ends with an error has no other effect. The spec marks the
second half as its own inference: "A command that returns anything but OK has no effect except S.result and S.rdata"
(spec/60_exceptions.md R283). -/
def Obligations.CommandErrorsHaveNoOtherEffect : Prop :=
  ∀ (s : State) (i : Instr),
    ∃ t, exec i s = .next t ∧ (t.host.result ≠ 0 → t = s.ended t.host.result 0) ∧ t.host.arg = s.host.arg

/-- Each command ends with a result code of its row of the table in spec/60_exceptions.md R281, which the spec marks
as its own inference from the rules of the commands. -/
def Obligations.ResultCodesOfTheCommands : Prop :=
  ∀ (s : State) (i : Instr), ∃ t, exec i s = .next t ∧ t.host.result ∈ resultCodes i

/-- No command changes what the scan engine alone writes, the number of active slots, which satellites exist, or the
discovery sequencer but for a start request. The spec's own inferences: "Discovery is the only writer of S.noOfSats,
S.satExists" (spec/43_discovery.md R201); and spec/10_state.md R21, spec/42_scan_engine.md R180. -/
def Obligations.CommandsLeaveTheScanEngineAlone : Prop :=
  ∀ (s : State) (i : Instr), ∃ t, exec i s = .next t
    ∧ t.cfg = s.cfg ∧ t.scanPhase = s.scanPhase ∧ t.conf = s.conf ∧ t.cyc = s.cyc ∧ t.time = s.time
    ∧ t.line = s.line ∧ t.env = s.env ∧ t.reest = s.reest ∧ t.readValue = s.readValue
    ∧ t.link.noOfSats = s.link.noOfSats ∧ t.disc = { s.disc with pending := t.disc.pending }
    ∧ (∀ a, t.satPresent a = s.satPresent a)
    ∧ ∀ j, (t.slot j).txBytes = (s.slot j).txBytes ∧ (t.slot j).rxBytes = (s.slot j).rxBytes
      ∧ (t.slot j).tm = (s.slot j).tm
      ∧ { (t.slot j).status with dirty := (s.slot j).status.dirty } = (s.slot j).status

/-! ## The commands: result, completion and frame -/

/-- R252: NOP. -/
def Obligations.NopOnlyReports : Prop :=
  ∀ (s : State) (f : CmdFields),
    exec (.nop f) s = .next (s.ended (if f = ⟨0, 0, 0, false, false, 0⟩ then 0x00 else 0x06) 0)

/-- R253: SETACTVAL. -/
def Obligations.SetActValWritesOneChannel : Prop :=
  ∀ (s : State) (f : CmdFields), s.Shape →
    let a := f.sat.toNat
    let bad := f.unusedZero { sat := true, ch := true } = false ∨ 3 < f.ch.toNat ∨ 256 ≤ s.host.arg.toNat
    (bad → exec (.setactval f) s = .next (s.ended 0x06 0))
      ∧ (¬ bad → s.satPresent a = false → exec (.setactval f) s = .next (s.ended 0x05 0))
      ∧ (¬ bad → s.satPresent a = true → ∃ t, exec (.setactval f) s = .next t ∧ SlotsOnly s t
          ∧ (∀ c : Fin 4, (t.slot a).txActVal[c] =
              if c.val = f.ch.toNat then s.host.arg.extractLsb' 0 8 else (s.slot a).txActVal[c])
          ∧ (t.slot a).txDirty = true
          ∧ { t.slot a with txActVal := (s.slot a).txActVal, txDirty := (s.slot a).txDirty } = s.slot a
          ∧ ∀ j, j ≠ a → t.slots[j]? = s.slots[j]?)

/-- R254: SETACTMODE. -/
def Obligations.SetActModeWritesOneChannel : Prop :=
  ∀ (s : State) (f : CmdFields), s.Shape →
    let a := f.sat.toNat
    let bad := f.unusedZero { sat := true, ch := true } = false ∨ 3 < f.ch.toNat ∨ 8 ≤ s.host.arg.toNat
    (bad → exec (.setactmode f) s = .next (s.ended 0x06 0))
      ∧ (¬ bad → s.satPresent a = false → exec (.setactmode f) s = .next (s.ended 0x05 0))
      ∧ (¬ bad → s.satPresent a = true → ∃ t, exec (.setactmode f) s = .next t ∧ SlotsOnly s t
          ∧ (∀ c : Fin 4, (t.slot a).txActMode[c] =
              if c.val = f.ch.toNat then s.host.arg.extractLsb' 0 3 else (s.slot a).txActMode[c])
          ∧ (t.slot a).txDirty = true
          ∧ { t.slot a with txActMode := (s.slot a).txActMode, txDirty := (s.slot a).txDirty } = s.slot a
          ∧ ∀ j, j ≠ a → t.slots[j]? = s.slots[j]?)

/-- R255: SETSATEN. -/
def Obligations.SetSatEnWritesTheRequest : Prop :=
  ∀ (s : State) (f : CmdFields), s.Shape →
    let a := f.sat.toNat
    let bad := f.unusedZero { sat := true } = false ∨ 2 ≤ s.host.arg.toNat
    (bad → exec (.setsaten f) s = .next (s.ended 0x06 0))
      ∧ (¬ bad → s.satPresent a = false → exec (.setsaten f) s = .next (s.ended 0x05 0))
      ∧ (¬ bad → s.satPresent a = true → ∃ t, exec (.setsaten f) s = .next t ∧ SlotsOnly s t
          ∧ t.slot a = { s.slot a with txEnableReq := decide (s.host.arg = 1), txDirty := true }
          ∧ ∀ j, j ≠ a → t.slots[j]? = s.slots[j]?)

/-- R256: LINKENABLE. What opDeBlock does is `Obligations.OpDeBlockClearsTheFlag`. -/
def Obligations.LinkEnableRequestsDiscovery : Prop :=
  ∀ (s : State) (f : CmdFields),
    let bad := f.unusedZero {} = false
    (bad → exec (.linkenable f) s = .next (s.ended 0x06 0))
      ∧ (¬ bad → s.link.adm = .enable → exec (.linkenable f) s = .next (s.ended 0x01 0))
      ∧ (¬ bad → s.link.adm = .disable → ∃ t, exec (.linkenable f) s = .next t
          ∧ (let u := State.opDeBlock { s with link := { s.link with adm := .enable } } .link 0x02#5
             t = State.ended { u with disc := { s.disc with pending := true } } 0x00 0)
          ∧ t.link.adm = .enable ∧ t.link.op = s.link.op &&& 0x1D#5 ∧ t.disc.pending = true
          ∧ { t with link := s.link, sats := s.sats, slots := s.slots, host := s.host, disc := s.disc
                     evq := s.evq, evOvf := s.evOvf } = s)

/-- R257: LINKDISABLE. What opBlock does is `Obligations.OpBlockRaisesTheFlag`. -/
def Obligations.LinkDisableNeedsDisabledSatellites : Prop :=
  ∀ (s : State) (f : CmdFields),
    let bad := f.unusedZero {} = false
    let held := ∃ a, s.satPresent a = true ∧ (s.sat a).adm = .enable
    (bad → exec (.linkdisable f) s = .next (s.ended 0x06 0))
      ∧ (¬ bad → s.link.adm = .disable → exec (.linkdisable f) s = .next (s.ended 0x01 0))
      ∧ (¬ bad → s.link.adm = .enable → held → exec (.linkdisable f) s = .next (s.ended 0x02 0))
      ∧ (¬ bad → s.link.adm = .enable → ¬ held → ∃ t, exec (.linkdisable f) s = .next t
          ∧ t = (State.opBlock { s with link := { s.link with adm := .disable } } .link 0x02#5).ended 0x00 0
          ∧ t.link.adm = .disable ∧ t.link.op = s.link.op ||| 0x02#5
          ∧ { t with link := s.link, sats := s.sats, slots := s.slots, host := s.host
                     evq := s.evq, evOvf := s.evOvf } = s)

/-- SATENABLE, with the implicit self-test where the satellite is idle and becomes WORKING
(spec/46_host_commands.md R258, spec/44_state_machine.md R216, R218, spec/45_selftest.md R230). The slot becomes dirty
where the op-state changes or the request is written (spec/10_state.md R31); that an op-state written unchanged leaves
the dirty flag alone is the model's reading (log 10). -/
def Obligations.SatEnableStartsASelftest : Prop :=
  ∀ (s : State) (f : CmdFields), s.Shape →
    let a := f.sat.toNat
    let bad := f.unusedZero { sat := true } = false
    let x := s.sat a
    let op := x.op &&& 0x1D#5
    let woken := x.op ≠ 0 ∧ op = 0
    let starts := x.stPhase = .idle ∧ op = 0
    (bad → exec (.satenable f) s = .next (s.ended 0x06 0))
      ∧ (¬ bad → s.satPresent a = false → exec (.satenable f) s = .next (s.ended 0x05 0))
      ∧ (¬ bad → s.satPresent a = true → x.adm = .enable → exec (.satenable f) s = .next (s.ended 0x01 0))
      ∧ (¬ bad → s.satPresent a = true → x.adm = .disable → s.link.adm = .disable →
          exec (.satenable f) s = .next (s.ended 0x02 0))
      ∧ (¬ bad → s.satPresent a = true → x.adm = .disable → s.link.adm = .enable →
          ∃ t, exec (.satenable f) s = .next t
            ∧ t.host = { s.host with result := 0x00, rdata := 0 }
            ∧ t.sat a =
              { x with
                adm := .enable
                op := op
                cum := if woken then SatCounters.zero else x.cum
                sec := if woken then SatCounters.zero else x.sec
                test := if woken ∨ starts then TestCounters.zero else x.test
                stPhase := if starts then .srv else x.stPhase
                stCnt := if starts then BitVec.ofNat 16 s.cfg.selftestPhaseCycles else x.stCnt
                stImplicit := if starts then true else x.stImplicit }
            ∧ t.slot a =
              { s.slot a with
                txReq := if starts then { (s.slot a).txReq with srv := true } else (s.slot a).txReq
                txDirty := (s.slot a).txDirty || decide (op ≠ x.op) || decide starts }
            ∧ (∀ j, j ≠ a → t.slots[j]? = s.slots[j]? ∧ t.sats[j]? = s.sats[j]?)
            ∧ t.evq = (s.emit (.opState (.sat a) op)).evq ∧ t.evOvf = (s.emit (.opState (.sat a) op)).evOvf
            ∧ { t with sats := s.sats, slots := s.slots, host := s.host, evq := s.evq, evOvf := s.evOvf } = s)

/-- SATDISABLE (spec/46_host_commands.md R259, spec/44_state_machine.md R215). The slot becomes dirty where the
op-state changes (spec/10_state.md R31); that an op-state written unchanged leaves the dirty flag alone is the model's
reading (log 10). -/
def Obligations.SatDisableBlocksTheSatellite : Prop :=
  ∀ (s : State) (f : CmdFields), s.Shape →
    let a := f.sat.toNat
    let bad := f.unusedZero { sat := true } = false
    let x := s.sat a
    let op := x.op ||| 0x02#5
    (bad → exec (.satdisable f) s = .next (s.ended 0x06 0))
      ∧ (¬ bad → s.satPresent a = false → exec (.satdisable f) s = .next (s.ended 0x05 0))
      ∧ (¬ bad → s.satPresent a = true → x.adm = .disable → exec (.satdisable f) s = .next (s.ended 0x01 0))
      ∧ (¬ bad → s.satPresent a = true → x.adm = .enable → ∃ t, exec (.satdisable f) s = .next t
          ∧ t.host = { s.host with result := 0x00, rdata := 0 }
          ∧ t.sat a = { x with adm := .disable, op := op }
          ∧ t.slot a = { s.slot a with txDirty := (s.slot a).txDirty || decide (op ≠ x.op) }
          ∧ (∀ j, j ≠ a → t.slots[j]? = s.slots[j]? ∧ t.sats[j]? = s.sats[j]?)
          ∧ t.evq = (s.emit (.opState (.sat a) op)).evq ∧ t.evOvf = (s.emit (.opState (.sat a) op)).evOvf
          ∧ { t with sats := s.sats, slots := s.slots, host := s.host, evq := s.evq, evOvf := s.evOvf } = s)

/-- R260, R230: SELFTEST and the start of a self-test. -/
def Obligations.SelftestStartsOnAWorkingSatellite : Prop :=
  ∀ (s : State) (f : CmdFields), s.Shape →
    let a := f.sat.toNat
    let bad := f.unusedZero { sat := true } = false
    let x := s.sat a
    (bad → exec (.selftest f) s = .next (s.ended 0x06 0))
      ∧ (¬ bad → s.satPresent a = false → exec (.selftest f) s = .next (s.ended 0x05 0))
      ∧ (¬ bad → s.satPresent a = true → x.stPhase ≠ .idle → exec (.selftest f) s = .next (s.ended 0x03 0))
      ∧ (¬ bad → s.satPresent a = true → x.stPhase = .idle → x.op ≠ 0 →
          exec (.selftest f) s = .next (s.ended 0x01 0))
      ∧ (¬ bad → s.satPresent a = true → x.stPhase = .idle → x.op = 0 →
          ∃ t, exec (.selftest f) s = .next t
            ∧ t.host = { s.host with result := 0x00, rdata := 0 }
            ∧ t.sat a =
              { x with
                test := TestCounters.zero
                stPhase := .srv
                stCnt := BitVec.ofNat 16 s.cfg.selftestPhaseCycles
                stImplicit := false }
            ∧ t.slot a = { s.slot a with txReq := { (s.slot a).txReq with srv := true }, txDirty := true }
            ∧ (∀ j, j ≠ a → t.slots[j]? = s.slots[j]? ∧ t.sats[j]? = s.sats[j]?)
            ∧ { t with sats := s.sats, slots := s.slots, host := s.host } = s)

/-- R261 and R262: SETLINKTHRES and SETSATTHRES. -/
def Obligations.ThresholdCommandsWriteOnePair : Prop :=
  ∀ (s : State) (f : CmdFields), s.Shape →
    let a := f.sat.toNat
    let high := s.host.arg.extractLsb' 16 16
    let low := s.host.arg.extractLsb' 0 16
    (f.unusedZero {} = false ∨ high ≤ low → exec (.setlinkthres f) s = .next (s.ended 0x06 0))
      ∧ (f.unusedZero {} = true → low < high → exec (.setlinkthres f) s =
          .next (State.ended { s with link := { s.link with thresHigh := high, thresLow := low } } 0x00 0))
      ∧ (f.unusedZero { sat := true } = false ∨ high ≤ low → exec (.setsatthres f) s = .next (s.ended 0x06 0))
      ∧ (f.unusedZero { sat := true } = true → low < high → s.satPresent a = false →
          exec (.setsatthres f) s = .next (s.ended 0x05 0))
      ∧ (f.unusedZero { sat := true } = true → low < high → s.satPresent a = true →
          ∃ t, exec (.setsatthres f) s = .next t ∧ SatsOnly s t
            ∧ t.sat a = { s.sat a with thresHigh := high, thresLow := low }
            ∧ ∀ j, j ≠ a → t.sats[j]? = s.sats[j]?)

/-- R263: RDLINKCNT. -/
def Obligations.RdLinkCntReadsOneCounter : Prop :=
  ∀ (s : State) (f : CmdFields),
    let bad := f.unusedZero { kindSelRst := true } = false ∨ 5 < f.kind.toNat
    let code : LinkKind → Nat := fun k =>
      match k with
      | .sym => 0
      | .size => 1
      | .rxcrc => 2
      | .remcrc => 3
      | .wd => 4
      | .timing => 5
    (bad → exec (.rdlinkcnt f) s = .next (s.ended 0x06 0))
      ∧ ∀ k : LinkKind, ¬ bad → f.kind.toNat = code k →
          ∃ t, exec (.rdlinkcnt f) s = .next t
            ∧ t.host = { s.host with result := 0x00, rdata := if f.sel then s.link.sec.get k else s.link.cum.get k }
            ∧ t.link.cum.get k = (if f.rst = true ∧ f.sel = false then 0 else s.link.cum.get k)
            ∧ t.link.sec.get k = (if f.rst = true ∧ f.sel = true then 0 else s.link.sec.get k)
            ∧ (∀ j, j ≠ k → t.link.cum.get j = s.link.cum.get j ∧ t.link.sec.get j = s.link.sec.get j)
            ∧ { t.link with cum := s.link.cum, sec := s.link.sec } = s.link
            ∧ { t with link := s.link, host := s.host } = s

/-- R264: RDSATCNT, the genuine counters (KIND 2 to 4) and the test-only ones (KIND 6 to 8). -/
def Obligations.RdSatCntReadsOneCounter : Prop :=
  ∀ (s : State) (f : CmdFields), s.Shape →
    let a := f.sat.toNat
    let x := s.sat a
    let kind := f.kind.toNat
    let legal := (2 ≤ kind ∧ kind ≤ 4) ∨ (6 ≤ kind ∧ kind ≤ 8 ∧ f.sel = false)
    let bad := f.unusedZero { sat := true, kindSelRst := true } = false ∨ ¬ legal
    (bad → exec (.rdsatcnt f) s = .next (s.ended 0x06 0))
      ∧ (¬ bad → s.satPresent a = false → exec (.rdsatcnt f) s = .next (s.ended 0x05 0))
      ∧ (¬ bad → s.satPresent a = true → ∃ t v, exec (.rdsatcnt f) s = .next t
          ∧ t.host = { s.host with result := 0x00, rdata := v }
          ∧ { t with sats := s.sats, host := s.host } = s
          ∧ (∀ j, j ≠ a → t.sats[j]? = s.sats[j]?)
          ∧ { t.sat a with cum := x.cum, sec := x.sec, test := x.test } = x
          ∧ (∀ k : SatKind, kind = (match k with | .rxcrc => 2 | .remcrc => 3 | .wd => 4) →
              v = if f.sel then x.sec.get k else x.cum.get k)
          ∧ (∀ c : TestCounterKind, kind = (match c with | .tremcrc => 6 | .trxcrc => 7 | .twd => 8) →
              v = x.test.get c)
          ∧ (∀ k : SatKind, (t.sat a).cum.get k =
              if kind = (match k with | .rxcrc => 2 | .remcrc => 3 | .wd => 4) ∧ f.rst = true ∧ f.sel = false
              then 0 else x.cum.get k)
          ∧ (∀ k : SatKind, (t.sat a).sec.get k =
              if kind = (match k with | .rxcrc => 2 | .remcrc => 3 | .wd => 4) ∧ f.rst = true ∧ f.sel = true
              then 0 else x.sec.get k)
          ∧ ∀ c : TestCounterKind, (t.sat a).test.get c =
              if kind = (match c with | .tremcrc => 6 | .trxcrc => 7 | .twd => 8) ∧ f.rst = true
              then 0 else x.test.get c)

/-- RDSATSTATE with the SAT_STATE word (spec/46_host_commands.md R265, spec/30_encoding.md R102). Bits [31:24] are
"the last received sensor byte, S.rxBytes[a][0]": byte 0 under the default layout, where sensorValue stands there, and
the sensorValue of the last received frame under any layout, which is the model's reading (log 8). -/
def Obligations.RdSatStateReadsTheStateWord : Prop :=
  ∀ (s : State) (f : CmdFields),
    let a := f.sat.toNat
    let bad := f.unusedZero { sat := true } = false
    let modeCode : TestMode → BitVec 2 := fun m => match m with | .inactive => 0 | .active => 1 | .deactivating _ => 2
    (bad → exec (.rdsatstate f) s = .next (s.ended 0x06 0))
      ∧ (¬ bad → s.satPresent a = false → exec (.rdsatstate f) s = .next (s.ended 0x05 0))
      ∧ (¬ bad → s.satPresent a = true → ∃ w : Word, exec (.rdsatstate f) s = .next (s.ended 0x00 w)
          ∧ w.extractLsb' 0 5 = (s.sat a).op
          ∧ w.extractLsb' 5 3 = 0
          ∧ (w.getLsbD 8 = true ↔ (s.sat a).adm = .disable)
          ∧ w.getLsbD 9 = (s.slot a).txEnableReq
          ∧ w.extractLsb' 10 2 = (match (s.sat a).stPhase with | .idle => 0 | .srv => 1 | .cli => 2 | .wd => 3)
          ∧ w.extractLsb' 12 2 = modeCode (s.slot a).tm.srv
          ∧ w.extractLsb' 14 2 = modeCode (s.slot a).tm.cli
          ∧ w.extractLsb' 16 2 = modeCode (s.slot a).tm.wd
          ∧ w.extractLsb' 18 6 = 0
          ∧ w.extractLsb' 24 8 = (unpack s.cfg.frameLayout (s.slot a).rxBytes).sensorValue
          ∧ (s.cfg.frameLayout = defaultLayout → w.extractLsb' 24 8 = frameByte (s.slot a).rxBytes 0))

/-- R266 with the word of R103: CONSUMESTATUS. -/
def Obligations.ConsumeStatusReadsAndClearsDirty : Prop :=
  ∀ (s : State) (f : CmdFields), s.Shape →
    let a := f.sat.toNat
    let bad := f.unusedZero { sat := true } = false
    let st := (s.slot a).status
    (bad → exec (.consumestatus f) s = .next (s.ended 0x06 0))
      ∧ (¬ bad → s.satPresent a = false → exec (.consumestatus f) s = .next (s.ended 0x05 0))
      ∧ (¬ bad → s.satPresent a = true → ∃ t w, exec (.consumestatus f) s = .next t
          ∧ t.host = { s.host with result := 0x00, rdata := w }
          ∧ { t with slots := s.slots, host := s.host } = s
          ∧ t.slot a = { s.slot a with status := { st with dirty := false } }
          ∧ (∀ j, j ≠ a → t.slots[j]? = s.slots[j]?)
          ∧ w.getLsbD 0 = st.watchdogError ∧ w.getLsbD 1 = st.remoteCrcError ∧ w.getLsbD 2 = st.rxCrcError
          ∧ w.getLsbD 3 = st.rxSymbolError ∧ w.getLsbD 4 = st.rxDataSizeError ∧ w.getLsbD 5 = st.dirty
          ∧ w.extractLsb' 6 26 = 0)

/-! ## The host register space -/

/-- R64: an access that is not 4 bytes wide, not aligned or outside the window is refused, and nothing changes. -/
def Obligations.OtherAccessesAreRefused : Prop :=
  ∀ (s : State) (addr width : Nat) (v : Word),
    (¬ (width = 4 ∧ addr % 4 = 0 ∧ addr ≤ 0xFC) →
      hostAccess (.read addr width) s = .refused .accessNotAdmitted
        ∧ hostAccess (.write addr width v) s = .refused .accessNotAdmitted)
      ∧ (width = 4 ∧ addr % 4 = 0 ∧ addr ≤ 0xFC →
        (∃ t, hostAccess (.read addr width) s = .next t) ∧ ∃ t, hostAccess (.write addr width v) s = .next t)

/-- What a read of each register returns, bit by bit, and that the read of EVENT alone has an effect: it takes the
oldest event (spec/20_memory.md R62, R66, spec/30_encoding.md R101). That no other read has an effect the spec marks as
its own inference: "All other reads are free of side effects and idempotent" (spec/20_memory.md R73). The value
returned is `readValue` (log 7). -/
def Obligations.ReadingEventTakesTheOldest : Prop :=
  ∀ s : State,
    let returns : Nat → Word → Prop := fun addr v => hostAccess (.read addr 4) s = .next { s with readValue := some v }
    (∀ w q, s.evq = w :: q → hostAccess (.read 0x1C 4) s = .next { s with evq := q, readValue := some w })
      ∧ (s.evq = [] → returns 0x1C 0)
      ∧ returns 0x00 0 ∧ returns 0x04 s.host.arg ∧ returns 0x0C s.host.rdata
      ∧ (∃ v, returns 0x08 v ∧ v.extractLsb' 0 8 = s.host.result ∧ v.extractLsb' 8 24 = 0)
      ∧ (∃ v, returns 0x10 v ∧ v.extractLsb' 0 5 = s.link.op ∧ v.extractLsb' 5 3 = 0
          ∧ (v.getLsbD 8 = true ↔ s.link.adm = .disable) ∧ v.extractLsb' 9 7 = 0
          ∧ v.extractLsb' 16 8 = s.link.noOfSats
          ∧ (v.getLsbD 24 = true ↔ s.disc.state ≠ .idle ∨ s.disc.pending = true)
          ∧ v.getLsbD 25 = s.reest.armed ∧ v.extractLsb' 26 6 = 0)
      ∧ (∃ v, returns 0x14 v ∧ v.extractLsb' 0 8 = s.conf.scanInterval ∧ v.extractLsb' 8 8 = s.conf.maxSats
          ∧ v.extractLsb' 16 8 = s.conf.linkAddr ∧ v.extractLsb' 24 8 = 0)
      ∧ (∃ v, returns 0x18 v ∧ v.extractLsb' 16 16 = s.link.thresHigh ∧ v.extractLsb' 0 16 = s.link.thresLow)
      ∧ (∃ v, returns 0x20 v ∧ (v.extractLsb' 0 16).toNat = min s.evq.length 0xFFFF ∧ v.extractLsb' 16 15 = 0
          ∧ v.getLsbD 31 = s.evOvf)
      ∧ ∀ addr, addr % 4 = 0 → 0x24 ≤ addr → addr ≤ 0xFC → returns addr 0

/-- R65, R67 and R68: what a write to each register does, and what the reserved offsets do. -/
def Obligations.WritesToTheRegisters : Prop :=
  ∀ (s : State) (v : Word),
    hostAccess (.write 0x00 4 v) s = exec (decodeWord v) s
      ∧ hostAccess (.write 0x04 4 v) s = .next { s with host := { s.host with arg := v } }
      ∧ (∀ addr, addr ∈ [0x08, 0x0C, 0x10, 0x14, 0x18, 0x1C] → hostAccess (.write addr 4 v) s = .next s)
      ∧ (v.getLsbD 31 = true → hostAccess (.write 0x20 4 v) s = .next { s with evOvf := false })
      ∧ (v.getLsbD 31 = false → hostAccess (.write 0x20 4 v) s = .next s)
      ∧ ∀ addr, addr % 4 = 0 → 0x24 ≤ addr → addr ≤ 0xFC →
          hostAccess (.write addr 4 v) s = .next s
            ∧ hostAccess (.read addr 4) s = .next { s with readValue := some 0 }

/-- The values after reset, for any legal configuration: the table of spec/70_reset_and_hazards.md R300, which the
spec marks as its own collection of the rules of spec/10_state.md. State.reset is such a state, its configuration and
first clock value free (logs 3 and 4). A step of the reset input leads to such a state, with the `now()` read at the
release (spec/70_reset_and_hazards.md R301, spec/10_state.md R50); that it is one step, keeps the configuration, and
sets t5 to the time read is the model's choice (logs 12, 3 and 6). -/
def Obligations.ResetLeavesTheTableOfValues : Prop :=
  (∀ (p : Params) (t : Nat), p.legal = true →
    let s := State.resetWith p t
    s.cfg = p ∧ s.scanPhase = .wait
      ∧ s.conf.scanInterval.toNat = p.scanIntervalMs ∧ s.conf.maxSats.toNat = p.maxSats
      ∧ s.conf.linkAddr.toNat = p.linkAddr
      ∧ s.link.thresHigh.toNat = p.errThresHigh0 ∧ s.link.thresLow.toNat = p.errThresLow0
      ∧ s.link.adm = .disable ∧ s.link.op = 0x03#5 ∧ s.link.noOfSats = 0
      ∧ s.link.cum = LinkCounters.zero ∧ s.link.sec = LinkCounters.zero
      ∧ s.slots.length = p.maxSats + 1 ∧ s.sats.length = p.maxSats
      ∧ (∀ sl ∈ s.slots, sl.txActVal = #v[0, 0, 0, 0] ∧ sl.txActMode = #v[0, 0, 0, 0] ∧ sl.txEnableReq = false
          ∧ sl.txReq = ⟨false, false, false⟩ ∧ sl.txDirty = true ∧ sl.txBytes = 0
          ∧ sl.tm = ⟨.inactive, .inactive, .inactive⟩ ∧ sl.rxBytes = 0 ∧ sl.status = Status.zero)
      ∧ (∀ x ∈ s.sats, x.present = false ∧ x.adm = .disable ∧ x.op = 0x06#5
          ∧ x.thresHigh.toNat = p.errThresHigh0 ∧ x.thresLow.toNat = p.errThresLow0
          ∧ x.cum = SatCounters.zero ∧ x.sec = SatCounters.zero ∧ x.test = TestCounters.zero
          ∧ x.stPhase = .idle ∧ x.stCnt = 0 ∧ x.stImplicit = false)
      ∧ s.disc = ⟨.idle, 0, 0, false⟩ ∧ s.reest = ⟨false, 0⟩ ∧ s.cyc = ⟨false, false, []⟩
      ∧ s.host = ⟨0, 0, 0⟩ ∧ s.evq = [] ∧ s.evOvf = false ∧ s.time.periodBase = t ∧ s.time.secBase = t
      ∧ s.line.level = p.idleLevel
      ∧ s.register 0x08 = 0 ∧ s.register 0x0C = 0 ∧ s.register 0x10 = 0x00000103#32 ∧ s.register 0x1C = 0
      ∧ s.register 0x20 = 0)
    ∧ params.legal = true ∧ State.reset = State.resetWith params resetTime
    ∧ ∀ s : State, s.input = .reset → ∃ t, step s = .next t
      ∧ t = { State.resetWith s.cfg t.env.clock with env := t.env }
      ∧ t.env = s.inputTaken.tick.env ∧ s.env.clock ≤ t.env.clock

/-! ## The frame codec -/

/-- R111 and R114: the inverted CRC is the complement; storing a CRC changes the low nibble of byte 7 alone and does
not depend on what stood there. -/
def Obligations.CrcGoesToTheLowNibble : Prop :=
  ∀ (form : CrcForm) (b : FrameWord) (inv : Bool) (n : BitVec 4),
    crc4 form b true = ~~~crc4 form b false
      ∧ (setCrc form b inv).extractLsb' 0 4 = crc4 form b inv
      ∧ (setCrc form b inv).extractLsb' 4 60 = b.extractLsb' 4 60
      ∧ setCrc form (b.extractLsb' 4 60 ++ n) inv = setCrc form b inv

/-- Where the default layout places each field (spec/30_encoding.md R83, spec/40_frame_codec.md R113), and the round
trips of the codec, under every legal layout and either reading of the CRC. The spec marks R119 as its own inference:
"`unpack(pack(F)) = F`, and `decode(encode(F, inv), p)` returns F with crc replaced by crc4(pack(F), inv) and changed =
(F.sensorValue ≠ p)". -/
def Obligations.FrameRoundTrip : Prop :=
  (∀ f : WireFrame,
    let w := pack defaultLayout f
    w.extractLsb' 56 8 = f.sensorValue
      ∧ w.extractLsb' 48 8 = f.actuatorValue[0] ∧ w.extractLsb' 40 8 = f.actuatorValue[1]
      ∧ w.extractLsb' 32 8 = f.actuatorValue[2] ∧ w.extractLsb' 24 8 = f.actuatorValue[3]
      ∧ w.extractLsb' 21 3 = f.actuatorMode[0] ∧ w.extractLsb' 18 3 = f.actuatorMode[1]
      ∧ w.extractLsb' 15 3 = f.actuatorMode[2] ∧ w.extractLsb' 12 3 = f.actuatorMode[3]
      ∧ w.getLsbD 11 = f.cmdWatchdogErrorTest ∧ w.getLsbD 10 = f.cmdEnable ∧ w.getLsbD 9 = f.cmdInvertCrc
      ∧ w.getLsbD 8 = f.startMark ∧ w.extractLsb' 6 2 = f.fbReserved ∧ w.getLsbD 5 = f.fbWatchdogError
      ∧ w.getLsbD 4 = f.fbRemoteCrcError ∧ w.extractLsb' 0 4 = f.crc)
  ∧ ∀ (p : Params) (f : WireFrame) (inv : Bool) (prev : Byte), layoutLegal p.frameLayout = true →
    unpack p.frameLayout (pack p.frameLayout f) = f
      ∧ decodeFrame p (encodeFrame p f inv) prev =
        ({ f with crc := crc4 p.crcForm (pack p.frameLayout f) inv }, decide (f.sensorValue ≠ prev))
      ∧ crcOk p (encodeFrame p f false) = true ∧ crcOk p (encodeFrame p f true) = false

/-- The laws of the CRC under CRC_FORM = DIRECT. The spec marks R120 as its own inference: "crc4(b xor d, 0) =
crc4(b, 0) xor crc4(d, 0) for all 8-byte b and d", and that a single flipped covered bit always changes the CRC. -/
def Obligations.CrcIsLinear : Prop :=
  (∀ b d : FrameWord, crc4 .direct (b ^^^ d) false = crc4 .direct b false ^^^ crc4 .direct d false)
    ∧ crc4 .direct 0 false = 0 ∧ crc4 .direct 0xFFFFFFFFFFFFFFF0#64 false = 0
    ∧ ∀ (b : FrameWord) (i : Nat), 4 ≤ i → i < 64 →
        crc4 .direct (b ^^^ (1#64 <<< i)) false ≠ crc4 .direct b false

/-! ## The bit transport -/

/-- A burst received as it was sent decodes to the frames that were sent, for every configuration whose nominal pulse
times lie in its own bands (spec/41_bit_transport.md R130, R134, R139; spec/30_encoding.md R88). -/
def Obligations.SentPulsesReadBack : Prop :=
  ∀ (p : Params) (burst : List FrameWord), p.legal = true →
    (p.b1Min ≤ p.t1h ∧ p.t1h ≤ p.b1Max) → (p.b0Min ≤ p.t0h ∧ p.t0h ≤ p.b0Max) →
    (p.tpMin ≤ p.t1h + p.t1l ∧ p.t1h + p.t1l ≤ p.tpMax) → (p.tpMin ≤ p.t0h + p.t0l ∧ p.t0h + p.t0l ≤ p.tpMax) →
    (pulses p burst).length = 64 * burst.length
      ∧ ∃ bits, depulse p (some (pulses p burst)) (64 * burst.length) = .ok bits
        ∧ ∀ i, (h : i < burst.length) → frameOfBits ((bits.drop (64 * i)).take 64) = burst[i]

/-- R138 and R140: the receive decoder reads no level but the first space's; no answer is a burst of no pulses, a
size error wherever bits are expected. -/
def Obligations.LevelsAreCheckedOnce : Prop :=
  (∀ (p : Params) (x : Pulse) (xs ys : List Pulse) (m : Bool) (n : Nat),
    xs.map (fun q => (q.markTicks, q.spaceTicks)) = ys.map (fun q => (q.markTicks, q.spaceTicks)) →
    depulse p (some (x :: xs)) n = depulse p (some ({ x with markLevel := m } :: ys)) n)
    ∧ ∀ (p : Params) (n : Nat), depulse p none n = depulse p (some []) n
      ∧ (0 < n → depulse p none n = .sizeError)

/-- The receive decoder's three answers. OK: exactly a burst whose first space is at the idle level, with each high
time in the band of its bit, each period but the last in its band, and as many pulses as expected. A symbol error:
exactly where the first space is at the wrong level, some high time lies in neither band, or some period but the last
pulse's lies out of its band. A size error: exactly where there is no symbol error and the number of pulses is not the
expected one (spec/41_bit_transport.md R134 to R137, R141, R142). -/
def Obligations.DepulseAcceptsExactly : Prop :=
  ∀ (p : Params) (xs : List Pulse) (n : Nat), p.legal = true →
    let inOne : Pulse → Prop := fun x => p.b1Min ≤ x.markTicks ∧ x.markTicks ≤ p.b1Max
    let inZero : Pulse → Prop := fun x => p.b0Min ≤ x.markTicks ∧ x.markTicks ≤ p.b0Max
    let inPeriod : Pulse → Prop := fun x =>
      p.tpMin ≤ x.markTicks + x.spaceTicks ∧ x.markTicks + x.spaceTicks ≤ p.tpMax
    let symbolBad := (∃ x : Pulse, xs.head? = some x ∧ x.spaceLevel ≠ p.idleLevel)
      ∨ ∃ (k : Nat) (x : Pulse), xs[k]? = some x
        ∧ ((¬ inOne x ∧ ¬ inZero x) ∨ (k + 1 < xs.length ∧ ¬ inPeriod x))
    (∀ bits : List Bool, depulse p (some xs) n = .ok bits ↔
      (∀ x : Pulse, xs.head? = some x → x.spaceLevel = p.idleLevel) ∧ xs.length = n ∧ bits.length = n
        ∧ (∀ (k : Nat) (x : Pulse) (v : Bool), xs[k]? = some x → bits[k]? = some v → if v then inOne x else inZero x)
        ∧ ∀ (k : Nat) (x : Pulse), xs[k]? = some x → k + 1 < n → inPeriod x)
      ∧ (depulse p (some xs) n = .symbolError ↔ symbolBad)
      ∧ (depulse p (some xs) n = .sizeError ↔ ¬ symbolBad ∧ xs.length ≠ n)

/-! ## The scan engine -/

/-- The micro-steps follow one another in their cyclic order, and WAIT is left exactly when the period has begun; a
WAIT step changes nothing but the micro-step and the CLOCK agent's answer, which it asks for once (log 1); that a
waiting one asks too is the model's reading (spec/42_scan_engine.md R150, R175; log 14). -/
def Obligations.MicroStepsInCyclicOrder : Prop :=
  ∀ s : State, s.input = .scan → ∃ t, step s = .next t
    ∧ (match s.scanPhase with
      | .wait => { t with scanPhase := s.scanPhase, env := s.env } = s
          ∧ t.env = s.inputTaken.tick.env ∧ s.env.clock ≤ t.env.clock
          ∧ t.scanPhase = if s.time.periodBase ≤ t.env.clock then .encode else .wait
      | .encode => t.scanPhase = .txrx
      | .txrx => t.scanPhase = .process
      | .process => t.scanPhase = .budget
      | .budget => t.scanPhase = .seq
      | .seq => t.scanPhase = .timing
      | .timing => t.scanPhase = .wait)

/-- After ENCODE every active slot stands on the wire as its fields, its satellite's state and its requests ask,
whether it was encoded in this cycle or an earlier one (spec/42_scan_engine.md R152, R153, R155,
spec/20_memory.md R75). Where no discovery starts, every test mode of an active slot has made its step: ACTIVE while
requested, DEACTIVATING(N_DEACT) in the cycle that finds the request withdrawn, one fewer in each later cycle and
INACTIVE after 1; a slot that was not dirty keeps its encoded frame; and nothing else changes: the fields that the
commands wrote, status and received bytes of every slot, and everything outside the slots (R29, R151 to R153). -/
def Obligations.EncodeBringsTheWireUpToDate : Prop :=
  ∀ s : State, s.Sound → s.input = .scan → s.scanPhase = .encode → ∃ t, step s = .next t
    ∧ (∀ i, i < t.activeSlots → ∃ sl, t.slots[i]? = some sl ∧ sl.txDirty = false
      ∧ (let f := unpack t.cfg.frameLayout sl.txBytes
         f.actuatorValue = sl.txActVal ∧ f.actuatorMode = sl.txActMode
          ∧ f.cmdEnable = (sl.txEnableReq && t.satPresent i && decide ((t.sat i).op = 0))
          ∧ f.cmdWatchdogErrorTest = sl.txReq.wd ∧ f.cmdInvertCrc = sl.txReq.cli
          ∧ f.startMark = decide (i = 0)
          ∧ f.sensorValue = 0 ∧ f.fbReserved = 0 ∧ f.fbWatchdogError = false ∧ f.fbRemoteCrcError = false)
      ∧ crcOk t.cfg sl.txBytes = !sl.txReq.srv
      ∧ ∀ k, (sl.tm.get k = .active ↔ sl.txReq.get k = true))
    ∧ (s.disc.pending = false → t.activeSlots = s.activeSlots
      ∧ (∀ i, i < s.activeSlots → (t.slot i).txReq = (s.slot i).txReq ∧ ∀ k, (t.slot i).tm.get k =
          if (s.slot i).txReq.get k then .active
          else
            match (s.slot i).tm.get k with
            | .active => .deactivating (BitVec.ofNat 8 s.cfg.nDeact)
            | .deactivating n => if n = 1 then .inactive else .deactivating (n - 1)
            | .inactive => .inactive)
      ∧ (∀ i, i < s.activeSlots →
          { t.slot i with
            tm := (s.slot i).tm, txBytes := (s.slot i).txBytes, txDirty := (s.slot i).txDirty } = s.slot i
          ∧ ((s.slot i).txDirty = false → (t.slot i).txBytes = (s.slot i).txBytes))
      ∧ (∀ i, s.activeSlots ≤ i → t.slot i = s.slot i) ∧ t.slots.length = s.slots.length
      ∧ t.env = s.inputTaken.env
      ∧ { t with scanPhase := s.scanPhase, slots := s.slots, env := s.env } = s)

/-- While the Link is not WORKING, ENCODE leaves no active slot with cmdEnable set on the wire: the fail-safe
propagation, the spec's own inference "The next ENCODE then sends cmdEnable = 0 to every satellite"
(spec/42_scan_engine.md R179). -/
def Obligations.BlockedLinkEnablesNothing : Prop :=
  ∀ s : State, s.Sound → s.input = .scan → s.scanPhase = .encode → s.link.op ≠ 0 → ∃ t, step s = .next t
    ∧ t.link.op ≠ 0
    ∧ ∀ i, i < t.activeSlots → (unpack t.cfg.frameLayout (t.slot i).txBytes).cmdEnable = false

/-- TXRX (spec/42_scan_engine.md R154, spec/41_bit_transport.md R130, R131, R133, R134, R143): the BUS agent is asked
once for each burst and not at all without one, and after a burst the line rests at IDLE_LEVEL. What is sent is
`line.txBurst`, what BUS answers `busAnswer`, and its next answer is that of `busAdvance`: the model's form of the line
and the agent (logs 1, 7 and 26). -/
def Obligations.TxrxSendsTheActiveSlots : Prop :=
  ∀ s : State, s.input = .scan → s.scanPhase = .txrx → ∃ t, step s = .next t
    ∧ { t with scanPhase := s.scanPhase, cyc := s.cyc, line := s.line, env := s.env } = s
    ∧ (s.activeSlots = 0 → t.cyc = ⟨false, false, []⟩ ∧ t.line = { s.line with txBurst := [] }
        ∧ t.env = s.inputTaken.env)
    ∧ (s.activeSlots ≠ 0 →
        t.line = ⟨s.cfg.idleLevel, pulses s.cfg ((s.slots.take s.activeSlots).map (·.txBytes))⟩
          ∧ t.env = s.inputTaken.busAdvance.env
          ∧ t.cyc =
            match depulse s.cfg s.inputTaken.busAnswer (64 * s.activeSlots) with
            | .symbolError => ⟨true, false, []⟩
            | .sizeError => ⟨false, true, []⟩
            | .ok bits => ⟨false, false, bits⟩)

/-- R156: PROCESS with a transport error. -/
def Obligations.TransportErrorsDecodeNothing : Prop :=
  ∀ s : State, s.Shape → s.activeSlots ≤ s.slots.length → s.input = .scan → s.scanPhase = .process →
    (s.cyc.sym = true ∨ s.cyc.size = true) → ∃ t, step s = .next t
    ∧ (let latched := fun i => (s.slot i).status.latch
          { Status.zero with rxSymbolError := s.cyc.sym, rxDataSizeError := s.cyc.size }
       (∀ i, t.slot i = if i < s.activeSlots then { s.slot i with status := latched i } else s.slot i)
        ∧ (let u := s.emitAll <| (List.range s.activeSlots).filterMap fun i =>
            if s.satPresent i then some (.statusNotify i (latched i).bits) else none
           t.evq = u.evq ∧ t.evOvf = u.evOvf))
    ∧ (∀ k, t.link.cum.get k =
        if (k = .sym ∧ s.cyc.sym = true) ∨ (k = .size ∧ s.cyc.size = true) then onceMore (s.link.cum.get k)
        else s.link.cum.get k)
    ∧ (∀ k, t.link.sec.get k =
        if (k = .sym ∧ s.cyc.sym = true) ∨ (k = .size ∧ s.cyc.size = true) then onceMore (s.link.sec.get k)
        else s.link.sec.get k)
    ∧ { t.link with cum := s.link.cum, sec := s.link.sec } = s.link
    ∧ t.slots.length = s.slots.length ∧ t.env = s.inputTaken.env
    ∧ { t with scanPhase := s.scanPhase, link := s.link, slots := s.slots, evq := s.evq, evOvf := s.evOvf
               env := s.env } = s

/-- PROCESS without a transport error stores the received frame of every active slot and judges it: a bad one is
latched, and for an existing satellite each of its errors is counted through `route`
(`Obligations.ErrorsGoToOneSetOfCounters`) and the status notified; a good one changes no status and counter, and its
sensor byte, where it changed, is forwarded for an existing satellite that is WORKING; slots without an existing
satellite are counted nowhere; nothing else changes (spec/42_scan_engine.md R157 to R161, R164 to R166). The sensor
byte is that of sensorValue under any layout, the model's reading (log 8). -/
def Obligations.ProcessDecodesEveryActiveSlot : Prop :=
  ∀ s : State, s.Shape → s.activeSlots ≤ s.slots.length → s.input = .scan → s.scanPhase = .process →
    s.cyc.sym = false → s.cyc.size = false → ∃ t, step s = .next t
    ∧ (let b : Nat → FrameWord := fun i => frameOfBits ((s.cyc.rxBuf.drop (64 * i)).take 64)
       let f : Nat → WireFrame := fun i => unpack s.cfg.frameLayout (b i)
       let eCrc : Nat → Bool := fun i => !crcOk s.cfg (b i)
       let bad : Nat → Bool := fun i => eCrc i || (f i).fbRemoteCrcError || (f i).fbWatchdogError
       let latched : Nat → Status := fun i =>
          (s.slot i).status.latch ⟨(f i).fbWatchdogError, (f i).fbRemoteCrcError, eCrc i, false, false, false⟩
       let changed : Nat → Bool := fun i =>
          decide ((f i).sensorValue ≠ (unpack s.cfg.frameLayout (s.slot i).rxBytes).sensorValue)
       (∀ i, t.slot i =
          if i < s.activeSlots then
            { s.slot i with rxBytes := b i, status := if bad i then latched i else (s.slot i).status }
          else s.slot i)
        ∧ t.slots.length = s.slots.length
        ∧ (let u := ((List.range s.activeSlots).filter fun i => s.satPresent i).foldl
            (fun u i => u.route i (eCrc i) (f i).fbRemoteCrcError (f i).fbWatchdogError) s
           t.sats = u.sats ∧ t.link = u.link)
        ∧ (∀ i, ¬ (i < s.activeSlots ∧ s.satPresent i = true ∧ bad i = true) → t.sat i = s.sat i)
        ∧ (∀ i, { t.sat i with cum := (s.sat i).cum, sec := (s.sat i).sec, test := (s.sat i).test } = s.sat i)
        ∧ (let u := s.emitAll <| (List.range s.activeSlots).filterMap fun i =>
            if s.satPresent i then
              if bad i then some (.statusNotify i (latched i).bits)
              else if changed i = true ∧ (s.sat i).op = 0 then some (.sensorRaw i (f i).sensorValue)
              else none
            else none
           t.evq = u.evq ∧ t.evOvf = u.evOvf)
        ∧ t.env = s.inputTaken.env
        ∧ { t with scanPhase := s.scanPhase, link := s.link, slots := s.slots, sats := s.sats
                   evq := s.evq, evOvf := s.evOvf, env := s.env } = s)

/-- R160: the status latch. -/
def Obligations.LatchAccumulatesUntilConsumed : Prop :=
  (∀ st flags : Status, st.dirty = true → st.latch flags =
      ⟨st.watchdogError || flags.watchdogError, st.remoteCrcError || flags.remoteCrcError,
        st.rxCrcError || flags.rxCrcError, st.rxSymbolError || flags.rxSymbolError,
        st.rxDataSizeError || flags.rxDataSizeError, true⟩)
    ∧ ∀ st flags : Status, st.dirty = false → st.latch flags = { flags with dirty := true }

/-- R161 and R163: an error of a satellite goes to the test counter of its kind while that kind's test explains it,
and otherwise to the satellite's and the Link's genuine counters; no other counter changes. An error of the Link
alone goes to the Link's two counters of its kind. -/
def Obligations.ErrorsGoToOneSetOfCounters : Prop :=
  (∀ (s : State) (k j : LinkKind),
    let t := s.countLink k
    t.link.cum.get j = (if j = k then onceMore (s.link.cum.get j) else s.link.cum.get j)
      ∧ t.link.sec.get j = (if j = k then onceMore (s.link.sec.get j) else s.link.sec.get j)
      ∧ { t.link with cum := s.link.cum, sec := s.link.sec } = s.link ∧ { t with link := s.link } = s)
  ∧ ∀ (s : State) (a : Nat) (errs : SatKind → Bool), s.Shape → s.satPresent a = true →
    let t := s.route a (errs .rxcrc) (errs .remcrc) (errs .wd)
    let testKind : SatKind → TestKind := fun k => match k with | .rxcrc => .cli | .remcrc => .srv | .wd => .wd
    let asTest : SatKind → Prop := fun k =>
      (s.slot a).tm.get (testKind k) = .active
        ∨ (s.cfg.routeDeactAsTest = true ∧ ∃ n, (s.slot a).tm.get (testKind k) = .deactivating n)
    (∀ k, asTest k → (t.sat a).cum.get k = (s.sat a).cum.get k ∧ (t.sat a).sec.get k = (s.sat a).sec.get k
        ∧ t.link.cum.get k.toLink = s.link.cum.get k.toLink ∧ t.link.sec.get k.toLink = s.link.sec.get k.toLink
        ∧ (t.sat a).test.get k.testCounter =
          if errs k then onceMore ((s.sat a).test.get k.testCounter) else (s.sat a).test.get k.testCounter)
      ∧ (∀ k, ¬ asTest k → (t.sat a).test.get k.testCounter = (s.sat a).test.get k.testCounter
        ∧ (t.sat a).cum.get k = (if errs k then onceMore ((s.sat a).cum.get k) else (s.sat a).cum.get k)
        ∧ (t.sat a).sec.get k = (if errs k then onceMore ((s.sat a).sec.get k) else (s.sat a).sec.get k)
        ∧ t.link.cum.get k.toLink =
          (if errs k then onceMore (s.link.cum.get k.toLink) else s.link.cum.get k.toLink)
        ∧ t.link.sec.get k.toLink =
          (if errs k then onceMore (s.link.sec.get k.toLink) else s.link.sec.get k.toLink))
      ∧ (∀ k, k = .sym ∨ k = .size ∨ k = .timing →
          t.link.cum.get k = s.link.cum.get k ∧ t.link.sec.get k = s.link.sec.get k)
      ∧ { t.sat a with cum := (s.sat a).cum, sec := (s.sat a).sec, test := (s.sat a).test } = s.sat a
      ∧ (∀ j, j ≠ a → t.sats[j]? = s.sats[j]?)
      ∧ { t.link with cum := s.link.cum, sec := s.link.sec } = s.link
      ∧ { t with sats := s.sats, link := s.link } = s

/-- BUDGET reads t5 <- now(), sets and clears ERROR_SECOND as the sums of its start and the thresholds ask, and
restarts the window at a one-second boundary of t5 (spec/42_scan_engine.md R167 to R172). It sets and clears the bit
through opBlock and opDeBlock (`Obligations.OpBlockRaisesTheFlag`, `Obligations.OpDeBlockClearsTheFlag`: events,
cascade, timer, counters), the Link before the satellites in ascending order and the sets before the clears, and
changes nothing else; the timer is armed exactly where it sets the Link's bit (spec/44_state_machine.md R210, R212,
R213, R220). The CLOCK agent's answer is no smaller than its last one, and is that of the list of choices where there
is one (log 1); the dirty flags and the timer's own clock read are as in those statements (logs 10 and 20). -/
def Obligations.BudgetFollowsTheThresholds : Prop :=
  ∀ s : State, s.Shape → s.ThresholdsOrdered → s.input = .scan → s.scanPhase = .budget → ∃ t, step s = .next t
    ∧ t.time.t5 = s.inputTaken.tick.env.clock ∧ s.env.clock ≤ t.time.t5
    ∧ (∀ d ds, s.env.clockIn = d :: ds → t.time.t5 = s.env.clock + d)
    ∧ (let boundary := s.time.secBase + 1000 ≤ t.time.t5
       hasBit t.link.op 0x08#5 =
          (if hasBit s.link.op 0x08#5 then !(decide boundary && decide (s.link.sec.sum ≤ s.link.thresLow.toNat))
           else decide (s.link.thresHigh.toNat ≤ s.link.sec.sum))
        ∧ (∀ a, s.satPresent a = true → hasBit (t.sat a).op 0x08#5 =
            (if hasBit (s.sat a).op 0x08#5 then
              !(decide boundary && decide ((s.sat a).sec.sum ≤ (s.sat a).thresLow.toNat))
             else decide ((s.sat a).thresHigh.toNat ≤ (s.sat a).sec.sum)))
        ∧ (boundary → t.link.sec = LinkCounters.zero ∧ (∀ x ∈ t.sats, x.sec = SatCounters.zero)
            ∧ t.time = { s.time with secBase := t.time.t5, t5 := t.time.t5 })
        ∧ (¬ boundary → t.link.sec = s.link.sec ∧ (∀ a, (t.sat a).sec = (s.sat a).sec)
            ∧ t.time = { s.time with t5 := t.time.t5 }))
    ∧ (let boundary := s.time.secBase + 1000 ≤ t.time.t5
       let linkSum := s.link.sec.sum
       let satSum : Nat → Nat := fun a => (s.sat a).sec.sum
       let linkSet := hasBit s.link.op 0x08#5 = false ∧ s.link.thresHigh.toNat ≤ linkSum
       let linkClear := boundary ∧ hasBit s.link.op 0x08#5 = true ∧ linkSum ≤ s.link.thresLow.toNat
       let set := s.children.filter fun a =>
          !hasBit (s.sat a).op 0x08#5 && decide ((s.sat a).thresHigh.toNat ≤ satSum a)
       let clear := s.children.filter fun a =>
          decide boundary && hasBit (s.sat a).op 0x08#5 && decide (satSum a ≤ (s.sat a).thresLow.toNat)
       let u0 : State := { s.inputTaken.tick with time := { s.time with t5 := t.time.t5 } }
       let u1 := if linkSet then u0.opBlock .link 0x08#5 else u0
       let u2 := set.foldl (fun u a => u.opBlock (.sat a) 0x08#5) u1
       let u3 := if linkClear then u2.opDeBlock .link 0x08#5 else u2
       let u4 := clear.foldl (fun u a => u.opDeBlock (.sat a) 0x08#5) u3
       t = { u4 with
             scanPhase := .seq
             link := if boundary then { u4.link with sec := LinkCounters.zero } else u4.link
             sats := if boundary then u4.sats.map (fun x => { x with sec := SatCounters.zero }) else u4.sats
             time := if boundary then { u4.time with secBase := t.time.t5 } else u4.time }
        ∧ (linkSet → t.reest = ⟨true, t.env.clock + s.cfg.tReestablishMs⟩) ∧ (¬ linkSet → t.reest = s.reest))

/-- ERROR_SECOND of the Link or of a satellite is cleared only by the BUDGET of a one-second boundary whose sum is at
or below the low threshold, or by reset; not by a command, not by a discovery that succeeds
(spec/42_scan_engine.md R170: "no other rule clears it, except the removal of a satellite by discovery"). -/
def Obligations.OnlyABoundaryClearsErrorSecond : Prop :=
  ∀ s t : State, s.Sound → step s = .next t →
    (hasBit s.link.op 0x08#5 = true → hasBit t.link.op 0x08#5 = false →
      s.input = .reset ∨ (s.input = .scan ∧ s.scanPhase = .budget ∧ s.time.secBase + 1000 ≤ t.time.t5
        ∧ s.link.sec.sum ≤ s.link.thresLow.toNat))
    ∧ ∀ a, s.satPresent a = true → hasBit (s.sat a).op 0x08#5 = true → hasBit (t.sat a).op 0x08#5 = false →
      s.input = .reset ∨ (s.input = .scan ∧ s.scanPhase = .budget ∧ s.time.secBase + 1000 ≤ t.time.t5
        ∧ (s.sat a).sec.sum ≤ (s.sat a).thresLow.toNat)

/-- R173 and R174: TIMING, with t6 the CLOCK agent's answer in this step (log 1). -/
def Obligations.OverrunsAreCountedAndNotMadeUp : Prop :=
  ∀ s : State, s.input = .scan → s.scanPhase = .timing → ∃ t, step s = .next t
    ∧ t.scanPhase = .wait
    ∧ t.env = s.inputTaken.tick.env
    ∧ { t with scanPhase := s.scanPhase, link := s.link, time := s.time, env := s.env } = s
    ∧ (let rem : Int := s.time.periodBase + s.conf.scanInterval.toNat - t.env.clock
       (0 < rem → t.link = s.link
          ∧ t.time = { s.time with periodBase := s.time.periodBase + s.conf.scanInterval.toNat })
        ∧ (¬ 0 < rem → t.time = { s.time with periodBase := t.env.clock }
          ∧ t.link =
            { s.link with
              cum := { s.link.cum with timing := onceMore s.link.cum.timing }
              sec := { s.link.sec with timing := onceMore s.link.sec.timing } }))

/-! ## The operational state machine -/

/-- opBlock of the Link and of a satellite, with its cascade, its events in order, and the timer
(spec/44_state_machine.md R210, R220). A slot becomes dirty where its satellite's op-state changes
(spec/10_state.md R31). Two clauses are the model's reading: an op-state written unchanged leaves the dirty flag alone
(log 10), and the timer's deadline is a read of the clock of its own (log 20). -/
def Obligations.OpBlockRaisesTheFlag : Prop :=
  ∀ (s : State) (flag : OpState), s.Shape →
    (let t := s.opBlock .link flag
     let cascades := s.link.op = 0
     let blocked := fun a => (s.sat a).op ||| 0x04#5
     t.link = { s.link with op := s.link.op ||| flag }
      ∧ (∀ a, t.sat a = if cascades ∧ s.satPresent a = true then { s.sat a with op := blocked a } else s.sat a)
      ∧ (∀ i, t.slot i =
          if cascades ∧ s.satPresent i = true ∧ blocked i ≠ (s.sat i).op then { s.slot i with txDirty := true }
          else s.slot i)
      ∧ (let u := s.emitAll ((if cascades then s.children.map fun a => .opState (.sat a) (blocked a) else [])
            ++ [.opState .link (s.link.op ||| flag)])
         t.evq = u.evq ∧ t.evOvf = u.evOvf)
      ∧ (flag &&& 0x18#5 ≠ 0 →
          t.env = s.tick.env ∧ t.reest = ⟨true, s.tick.env.clock + s.cfg.tReestablishMs⟩)
      ∧ (flag &&& 0x18#5 = 0 → t.env = s.env ∧ t.reest = s.reest)
      ∧ t.sats.length = s.sats.length ∧ t.slots.length = s.slots.length
      ∧ { t with link := s.link, sats := s.sats, slots := s.slots, evq := s.evq, evOvf := s.evOvf
                 env := s.env, reest := s.reest } = s)
    ∧ ∀ a, s.satPresent a = true →
      let t := s.opBlock (.sat a) flag
      let op := (s.sat a).op ||| flag
      t.sat a = { s.sat a with op := op }
        ∧ t.slot a = { s.slot a with txDirty := (s.slot a).txDirty || decide (op ≠ (s.sat a).op) }
        ∧ (∀ j, j ≠ a → t.slots[j]? = s.slots[j]? ∧ t.sats[j]? = s.sats[j]?)
        ∧ t.evq = (s.emit (.opState (.sat a) op)).evq ∧ t.evOvf = (s.emit (.opState (.sat a) op)).evOvf
        ∧ { t with sats := s.sats, slots := s.slots, evq := s.evq, evOvf := s.evOvf } = s

/-- opDeBlock of the Link and of a satellite, with its cascade, the reset of counters and the events in order
(spec/44_state_machine.md R212, R213). A slot becomes dirty where its satellite's op-state changes
(spec/10_state.md R31); that an op-state written unchanged leaves the dirty flag alone is the model's reading
(log 10). -/
def Obligations.OpDeBlockClearsTheFlag : Prop :=
  ∀ (s : State) (flag : OpState), s.Shape →
    (let t := s.opDeBlock .link flag
     let op := s.link.op &&& ~~~flag
     let woken := s.link.op ≠ 0 ∧ op = 0
     let freed := fun a => (s.sat a).op &&& 0x1B#5
     t.link =
        { s.link with
          op := op
          cum := if woken then LinkCounters.zero else s.link.cum
          sec := if woken then LinkCounters.zero else s.link.sec }
      ∧ (∀ a, t.sat a =
          if woken ∧ s.satPresent a = true then
            if (s.sat a).op ≠ 0 ∧ freed a = 0 then
              { s.sat a with
                op := 0, cum := SatCounters.zero, sec := SatCounters.zero, test := TestCounters.zero }
            else { s.sat a with op := freed a }
          else s.sat a)
      ∧ (∀ i, t.slot i =
          if woken ∧ s.satPresent i = true ∧ freed i ≠ (s.sat i).op then { s.slot i with txDirty := true }
          else s.slot i)
      ∧ (let u := s.emitAll ((if woken then s.children.map fun a => .opState (.sat a) (freed a) else [])
            ++ [.opState .link op])
         t.evq = u.evq ∧ t.evOvf = u.evOvf)
      ∧ t.sats.length = s.sats.length ∧ t.slots.length = s.slots.length
      ∧ { t with link := s.link, sats := s.sats, slots := s.slots, evq := s.evq, evOvf := s.evOvf } = s)
    ∧ ∀ a, s.satPresent a = true →
      let t := s.opDeBlock (.sat a) flag
      let op := (s.sat a).op &&& ~~~flag
      let woken := (s.sat a).op ≠ 0 ∧ op = 0
      t.sat a =
          { s.sat a with
            op := op
            cum := if woken then SatCounters.zero else (s.sat a).cum
            sec := if woken then SatCounters.zero else (s.sat a).sec
            test := if woken then TestCounters.zero else (s.sat a).test }
        ∧ t.slot a = { s.slot a with txDirty := (s.slot a).txDirty || decide (op ≠ (s.sat a).op) }
        ∧ (∀ j, j ≠ a → t.slots[j]? = s.slots[j]? ∧ t.sats[j]? = s.sats[j]?)
        ∧ t.evq = (s.emit (.opState (.sat a) op)).evq ∧ t.evOvf = (s.emit (.opState (.sat a) op)).evOvf
        ∧ { t with sats := s.sats, slots := s.slots, evq := s.evq, evOvf := s.evOvf } = s

/-- R176 and R221: SEQ makes one discovery step where discovery runs, then one self-test step for each existing
satellite whose test runs, in ascending order, and then the re-establishment check with the t5 of this cycle; and what
that check does. -/
def Obligations.ReestablishmentIsOneShot : Prop :=
  (∀ s : State,
    let t := s.reestCheck
    let due := s.reest.armed = true ∧ s.reest.deadline ≤ s.time.t5
    let asks := s.link.op &&& 0x18#5 ≠ 0 ∧ s.link.adm = .enable ∧ s.disc.state = .idle ∧ s.disc.pending = false
    (due → t.reest = { s.reest with armed := false }
        ∧ (asks → t.disc = { s.disc with pending := true }) ∧ (¬ asks → t.disc = s.disc)
        ∧ { t with reest := s.reest, disc := s.disc } = s)
      ∧ (¬ due → t = s))
  ∧ ∀ s : State, s.input = .scan → s.scanPhase = .seq → ∃ t, step s = .next t
    ∧ (let v := if s.disc.state = .idle then s.inputTaken else s.inputTaken.discoveryStep
       let u := (v.children.filter fun a => decide ((v.sat a).stPhase ≠ .idle)).foldl
          (fun u a => u.selftestStep a) v
       u.time = s.time ∧ t = { u.reestCheck with scanPhase := .timing })

/-! ## Discovery and self-test -/

/-- The ENCODE that starts discovery destroys every satellite, telling the end of its self-test and then its end, and
puts the probe frame, with a bad CRC, on every slot; nothing else changes (spec/43_discovery.md R191 to R193,
spec/45_selftest.md R236). -/
def Obligations.DiscoveryProbesEverySlot : Prop :=
  ∀ s : State, s.Shape → s.input = .scan → s.scanPhase = .encode → s.disc.pending = true → ∃ t, step s = .next t
    ∧ t.disc.pending = false ∧ t.disc.state = .probe ∧ t.disc.cnt.toNat = 2 * s.cfg.settleCycles
    ∧ t.link.op = s.link.op ||| 0x01#5 ∧ t.activeSlots = s.cfg.maxSats + 1
    ∧ (∀ a, t.satPresent a = false)
    ∧ { t.link with op := s.link.op, noOfSats := s.link.noOfSats } = s.link ∧ t.disc.result = s.disc.result
    ∧ t.slots.length = s.slots.length ∧ t.sats.length = s.sats.length ∧ t.env = s.inputTaken.env
    ∧ { t with scanPhase := s.scanPhase, link := s.link, slots := s.slots, sats := s.sats, disc := s.disc
               evq := s.evq, evOvf := s.evOvf, env := s.env } = s
    ∧ (let op : Nat → OpState := fun a => if s.link.op = 0 then (s.sat a).op ||| 0x04#5 else (s.sat a).op
       (∀ a, t.sat a =
          if s.satPresent a then
            { s.sat a with present := false, op := op a, stPhase := .idle
                           stCnt := if (s.sat a).stPhase = .idle then (s.sat a).stCnt else 0
                           stImplicit := if (s.sat a).stPhase = .idle then (s.sat a).stImplicit else false }
          else s.sat a)
        ∧ (let u := s.emitAll ((if s.link.op = 0 then s.children.map fun a => .opState (.sat a) (op a) else [])
              ++ [.opState .link (s.link.op ||| 0x01#5)]
              ++ s.children.flatMap fun a =>
                (if (s.sat a).stPhase = .idle then [] else [.selftestResult a .notFound]) ++ [.satExists a false])
           t.evq = u.evq ∧ t.evOvf = u.evOvf))
    ∧ ∀ i, i < s.cfg.maxSats + 1 → ∃ sl, t.slots[i]? = some sl
      ∧ sl.txReq = ⟨true, false, false⟩ ∧ sl.tm = ⟨.active, .inactive, .inactive⟩ ∧ sl.txDirty = false
      ∧ sl.status = Status.zero ∧ sl.rxBytes = 0 ∧ sl.txEnableReq = false
      ∧ sl.txActVal = #v[0, 0, 0, 0] ∧ sl.txActMode = #v[0, 0, 0, 0]
      ∧ crcOk t.cfg sl.txBytes = false

/-- A discovery step before the end of a settle window only counts down (spec/43_discovery.md R194). The probe's answer
is the length of the contiguous run of slots that assert remoteCrcError, or TooManySatellites where the slot beyond the
maximum asserts it (R195, R196); of the slots, the Link and the rest nothing else changes, but for what the
re-establishment check does to its timer (`Obligations.ReestablishmentIsOneShot`). The deadline of the timer that the
abort arms is a clock read of its own, the model's reading (log 20). -/
def Obligations.ProbeFindsTheContiguousRun : Prop :=
  (∀ s : State, s.disc.state ≠ .idle → s.disc.cnt ≠ 1 →
    s.discoveryStep = { s with disc := { s.disc with cnt := s.disc.cnt - 1 } })
  ∧ ∀ s : State, s.Sound → s.input = .scan → s.scanPhase = .seq → s.disc.state = .probe → s.disc.cnt = 1 →
    (∀ k, k ≤ s.cfg.maxSats → (∀ i, i < k → (s.slot i).status.remoteCrcError = true) →
      (s.slot k).status.remoteCrcError = false → (s.slot s.cfg.maxSats).status.remoteCrcError = false →
      ∃ t, step s = .next t ∧ t.disc.state = .clear ∧ t.disc.result.toNat = k
        ∧ t.disc.cnt.toNat = s.cfg.settleCycles ∧ t.link = s.link ∧ t.evq = s.evq ∧ t.evOvf = s.evOvf
        ∧ t.disc.pending = s.disc.pending ∧ t.reest = s.reestCheck.reest ∧ t.env = s.inputTaken.env
        ∧ (∀ i, i < s.cfg.maxSats + 1 → (t.slot i).txReq = ⟨false, false, false⟩ ∧ (t.slot i).txDirty = true
            ∧ { t.slot i with txReq := (s.slot i).txReq, txDirty := (s.slot i).txDirty } = s.slot i)
        ∧ t.slots.length = s.slots.length
        ∧ { t with scanPhase := s.scanPhase, slots := s.slots, disc := s.disc, reest := s.reest, env := s.env } = s)
    ∧ ((s.slot s.cfg.maxSats).status.remoteCrcError = true →
      ∃ t, step s = .next t ∧ t.disc.state = .idle ∧ t.disc.result = 0 ∧ t.activeSlots = 0
        ∧ t.disc.cnt = 0 ∧ t.disc.pending = s.disc.pending
        ∧ t.link.op = (s.link.op ||| 0x10#5) &&& 0x1E#5
        ∧ { t.link with op := s.link.op, noOfSats := s.link.noOfSats } = s.link
        ∧ t.env = s.inputTaken.tick.env ∧ t.reest = ⟨true, t.env.clock + s.cfg.tReestablishMs⟩
        ∧ (∀ i, i < s.cfg.maxSats + 1 → t.slot i =
            { s.slot i with
              txReq := ⟨false, false, false⟩, txDirty := true
              tm := ⟨.inactive, .inactive, .inactive⟩, status := Status.zero })
        ∧ (∀ a, t.satPresent a = false) ∧ t.slots.length = s.slots.length
        ∧ { t with scanPhase := s.scanPhase, link := s.link, slots := s.slots, disc := s.disc, reest := s.reest
                   evq := s.evq, evOvf := s.evOvf, env := s.env } = s
        ∧ (let u := s.emitAll [.opState .link (s.link.op ||| 0x10#5), .opState .link ((s.link.op ||| 0x10#5) &&& 0x1E#5),
            .discResult .tooManySatellites 0]
           t.evq = u.evq ∧ t.evOvf = u.evOvf))

/-- The end of discovery creates exactly the satellites found, telling each, clears INIT, and tells the result after
the events of the Link's own change (spec/43_discovery.md R197 to R199). The Link's counters are 0 where it becomes
WORKING (spec/44_state_machine.md R212, R213); of the slots, the Link, the other satellites and the rest nothing else
changes, but for what the re-establishment check then does (`Obligations.ReestablishmentIsOneShot`). A slot becomes
dirty where its satellite's op-state changes (spec/10_state.md R31). Two clauses are the model's reading: an op-state
written unchanged leaves the dirty flag alone (log 10), and the deadline of the timer that an empty bus arms is a clock
read of its own (log 20). -/
def Obligations.DiscoveryCreatesTheSatellitesFound : Prop :=
  ∀ s : State, s.Sound → s.input = .scan → s.scanPhase = .seq → s.disc.state = .clear → s.disc.cnt = 1 →
    ∃ t, step s = .next t ∧ t.disc.state = .idle ∧ t.link.noOfSats = s.disc.result
      ∧ (∀ a, t.satPresent a = true ↔ a < s.disc.result.toNat)
      ∧ (0 < s.disc.result.toNat → t.link.op = s.link.op &&& 0x0E#5)
      ∧ (s.disc.result = 0 → t.link.op = (s.link.op ||| 0x10#5) &&& 0x1E#5)
      ∧ (let woken := t.link.op = 0
         t.link =
            { s.link with
              op := t.link.op
              noOfSats := s.disc.result
              cum := if woken then LinkCounters.zero else s.link.cum
              sec := if woken then LinkCounters.zero else s.link.sec }
          ∧ (∀ i, i < s.cfg.maxSats + 1 →
              { t.slot i with
                status := (s.slot i).status, tm := (s.slot i).tm, txDirty := (s.slot i).txDirty } = s.slot i
              ∧ (t.slot i).txDirty = ((s.slot i).txDirty
                || decide (i < s.disc.result.toNat ∧ (woken ∨ (s.sat i).op ≠ 0x06#5)))))
      ∧ (∀ a, s.disc.result.toNat ≤ a → t.sat a = s.sat a)
      ∧ t.slots.length = s.slots.length ∧ t.sats.length = s.sats.length
      ∧ t.disc.cnt = 0 ∧ t.disc.result = s.disc.result
      ∧ (0 < s.disc.result.toNat → t.env = s.inputTaken.env
          ∧ (let v := State.reestCheck { s with link := t.link, disc := { s.disc with state := .idle } }
             t.disc.pending = v.disc.pending ∧ t.reest = v.reest))
      ∧ (s.disc.result = 0 → t.env = s.inputTaken.tick.env ∧ t.disc.pending = s.disc.pending
          ∧ t.reest = ⟨true, t.env.clock + s.cfg.tReestablishMs⟩)
      ∧ { t with scanPhase := s.scanPhase, link := s.link, slots := s.slots, sats := s.sats, disc := s.disc
                 reest := s.reest, evq := s.evq, evOvf := s.evOvf, env := s.env } = s
      ∧ (∀ a, a < s.disc.result.toNat → t.sat a =
          { s.sat a with
            present := true, adm := .disable, op := if t.link.op = 0 then 0x02#5 else 0x06#5
            cum := SatCounters.zero, sec := SatCounters.zero, test := TestCounters.zero
            stPhase := .idle, stCnt := 0, stImplicit := false })
      ∧ (∀ i, i < s.cfg.maxSats + 1 → (t.slot i).status = Status.zero
        ∧ (t.slot i).tm = (if i < s.disc.result.toNat then (s.slot i).tm else ⟨.inactive, .inactive, .inactive⟩))
      ∧ (let found := List.range s.disc.result.toNat
         let u := s.emitAll (found.map (fun a => .satExists a true)
            ++ if s.disc.result = 0 then
                [.opState .link (s.link.op ||| 0x10#5), .opState .link t.link.op, .discResult .emptyBus 0]
               else
                (if t.link.op = 0 then found.map fun a => .opState (.sat a) 0x02#5 else [])
                  ++ [.opState .link t.link.op, .discResult .ok s.disc.result])
         t.evq = u.evq ∧ t.evOvf = u.evOvf)

/-- The sequencer steps of the running self-tests (spec/45_selftest.md R231 to R235): a phase counts down, and at its
end goes on to the next one exactly if the phase's test counter is not zero; the end of a test is told with its code,
before the OP_STATE of the FAIL that a failed implicit test sets, in ascending order of the satellites. Satellites
without a running test, their slots and everything else are as before, but for what the re-establishment check does
(`Obligations.ReestablishmentIsOneShot`). -/
def Obligations.SelftestPhasesFollowTheirCounters : Prop :=
  ∀ s : State, s.Sound → s.input = .scan → s.scanPhase = .seq → s.disc.state = .idle → ∃ t, step s = .next t
    ∧ (let code : Nat → Option SelftestCode := fun a =>
          let x := s.sat a
          if x.stCnt = 1 then
            match x.stPhase with
            | .idle => none
            | .srv => if x.test.tremcrc = 0 then some .serverCrcFailure else none
            | .cli => if x.test.trxcrc = 0 then some .clientCrcFailure else none
            | .wd => if x.test.twd = 0 then some .watchdogFailure else some .success
          else none
       let fails : Nat → SelftestCode → Bool := fun a c => (s.sat a).stImplicit && decide (c ≠ .success)
       let u := s.emitAll <| s.children.flatMap fun a =>
          match code a with
          | none => []
          | some c =>
            .selftestResult a c :: if fails a c then [.opState (.sat a) ((s.sat a).op ||| 0x10#5)] else []
       (t.evq = u.evq ∧ t.evOvf = u.evOvf)
        ∧ (∀ a, ¬ (s.satPresent a = true ∧ (s.sat a).stPhase ≠ .idle) → t.sat a = s.sat a ∧ t.slot a = s.slot a)
        ∧ t.slots.length = s.slots.length ∧ t.sats.length = s.sats.length
        ∧ t.disc = s.reestCheck.disc ∧ t.reest = s.reestCheck.reest ∧ t.env = s.inputTaken.env
        ∧ { t with scanPhase := s.scanPhase, slots := s.slots, sats := s.sats, disc := s.disc, reest := s.reest
                   evq := s.evq, evOvf := s.evOvf, env := s.env } = s
        ∧ ∀ a, s.satPresent a = true → (s.sat a).stPhase ≠ .idle →
          let x := s.sat a
          let goes : StPhase → PerTest Bool → Prop := fun ph req =>
            t.sat a = { x with stPhase := ph, stCnt := BitVec.ofNat 16 s.cfg.selftestPhaseCycles }
              ∧ (t.slot a).txReq = req
          (x.stCnt ≠ 1 → t.sat a = { x with stCnt := x.stCnt - 1 } ∧ t.slot a = s.slot a)
            ∧ (x.stCnt = 1 → (t.slot a).txDirty = true
              ∧ { t.slot a with txReq := (s.slot a).txReq, txDirty := (s.slot a).txDirty } = s.slot a
              ∧ match code a with
                | some c =>
                  t.sat a = { x with stPhase := .idle, stCnt := 0, stImplicit := false
                                     op := if fails a c then x.op ||| 0x10#5 else x.op }
                    ∧ (t.slot a).txReq = ⟨false, false, false⟩
                | none =>
                  if x.stPhase = .srv then goes .cli ⟨false, true, false⟩ else goes .wd ⟨false, false, true⟩))

/-! ## Invariants -/

/-- Every state right after reset, of any legal configuration and first clock value, is sound. State.reset is one whose
configuration and first clock value are free (logs 3 and 4); that the time of the last BUDGET lies between the start of
the window and now rests on the value that the model chose for t5 at reset (log 6). -/
def Obligations.SoundAtReset : Prop :=
  (∀ (p : Params) (t : Nat), p.legal = true → (State.resetWith p t).Sound) ∧ State.reset.Sound

/-- Every step keeps the shape of the state, the order of its times, and what TXRX hands to PROCESS
(spec/10_state.md R23, R28, R36, R50; spec/41_bit_transport.md R131, R141). That a step of the reset input keeps the
configuration, and with it the parameters, is the model's choice (log 3), and so is the value of t5 after it (log 6). -/
def Obligations.StepKeepsShapeTimesAndCycle : Prop :=
  ∀ s t : State, s.Sound → step s = .next t → t.Shape ∧ t.TimesSound ∧ t.CycleSound ∧ t.cfg = s.cfg

/-- R104, R286, R288 and R289: the event queue. `emit` appends the event's word at the tail, or, where the queue holds
EVQ_DEPTH events, drops it and sets evOvf; IRQ is 1 exactly while the queue is not empty; the words of the six event
types; evOvf is cleared by the write of 1 to its bit in EVSTAT alone, and by reset; and every step keeps the queue
within EVQ_DEPTH and free of words of any other type. -/
def Obligations.StepKeepsTheQueueSound : Prop :=
  (∀ (s : State) (e : Event),
    ((∀ d, s.cfg.evqDepth = some d → s.evq.length < d) → s.emit e = { s with evq := s.evq ++ [e.word] })
      ∧ (∀ d, s.cfg.evqDepth = some d → d ≤ s.evq.length → s.emit e = { s with evOvf := true })
      ∧ (s.irq = true ↔ s.evq ≠ []))
    ∧ (∀ (s : State) (l : List Event) (e : Event), s.emitAll [] = s ∧ s.emitAll (e :: l) = (s.emit e).emitAll l)
    ∧ (∀ a, a < 255 →
        (∀ x : Bool, (Event.satExists a x).word.toNat = 0x10000000 + a * 0x100000 + if x then 1 else 0)
          ∧ (∀ op, (Event.opState (.sat a) op).word.toNat = 0x20000000 + a * 0x100000 + op.toNat)
          ∧ (∀ v, (Event.sensorRaw a v).word.toNat = 0x30000000 + a * 0x100000 + v.toNat)
          ∧ (∀ st : Status, (Event.statusNotify a st.bits).word.toNat = 0x40000000 + a * 0x100000 + st.bits.toNat)
          ∧ ∀ c : SelftestCode, (Event.selftestResult a c).word.toNat = 0x50000000 + a * 0x100000
            + match c with
              | .success => 0x00
              | .serverCrcFailure => 0x10
              | .clientCrcFailure => 0x11
              | .watchdogFailure => 0x12
              | .notFound => 0x05)
    ∧ (∀ op, (Event.opState .link op).word.toNat = 0x2FF00000 + op.toNat)
    ∧ (∀ (c : DiscoveryCode) (k : BitVec 8), (Event.discResult c k).word.toNat = 0x6FF00000 + k.toNat * 0x100
        + match c with
          | .ok => 0x00
          | .tooManySatellites => 0x04
          | .emptyBus => 0x13)
    ∧ (∀ st : Status, st.bits.getLsbD 0 = st.watchdogError ∧ st.bits.getLsbD 1 = st.remoteCrcError
        ∧ st.bits.getLsbD 2 = st.rxCrcError ∧ st.bits.getLsbD 3 = st.rxSymbolError
        ∧ st.bits.getLsbD 4 = st.rxDataSizeError ∧ st.bits.getLsbD 5 = st.dirty)
    ∧ (∀ s t : State, step s = .next t → s.evOvf = true → t.evOvf = true ∨ s.input = .reset
        ∨ ∃ v : Word, s.input = .host (.write 0x20 4 v) ∧ v.getLsbD 31 = true)
    ∧ ∀ s t : State, s.QueueSound → step s = .next t → t.QueueSound

/-- Every step keeps each threshold pair ordered, and DISABLED in step with the adm-state
(spec/00_scope.md R7, spec/46_host_commands.md R261, R262; spec/44_state_machine.md R215, R216). -/
def Obligations.StepKeepsThresholdsAndAdmStates : Prop :=
  ∀ s t : State, s.Sound → step s = .next t → t.ThresholdsOrdered ∧ t.AdmSound

/-- The cascading invariant, which the spec marks as its own inference: "in every state between atomic steps, for
every existing satellite a, S.satOp[a] has CONTROL_BLOCKED set exactly when S.linkOp ≠ 0"
(spec/44_state_machine.md R224). -/
def Obligations.StepKeepsTheCascade : Prop :=
  ∀ s t : State, s.Sound → step s = .next t → t.Cascaded

/-- Every step keeps discovery the owner of the satellites while it runs, and the satellites those of the active
slots while it does not. The spec's own inferences: "from step 1 until `discovery_finish()`, no satellite exists"
(spec/43_discovery.md R201) and spec/10_state.md R36. -/
def Obligations.StepKeepsDiscoveryInOwnership : Prop :=
  ∀ s t : State, s.Sound → step s = .next t → t.DiscoverySound

/-- Every step keeps the test modes within N_DEACT, the self-tests within their phase, and the test requests those of
the probe and of the self-test phases (spec/10_state.md R30, R33, R44). -/
def Obligations.StepKeepsTheSequencersInStep : Prop :=
  ∀ s t : State, s.Sound → step s = .next t → t.ModesSound ∧ t.SelftestsSound ∧ t.RequestsSound

/-- Every step keeps what stands ready for the wire current: a slot that is not dirty holds the encoding of its
fields, its satellite's state and its test modes (spec/10_state.md R31, R32). -/
def Obligations.StepKeepsTheWireCurrent : Prop :=
  ∀ s t : State, s.Sound → step s = .next t → t.WireCurrent

end Statements
end

