-- ==== Sys2Proof/Laws/Check.lean ====
section
/-! SUPPORT. A check that Lean can evaluate on a concrete state and that implies `State.Sound`: the tests use it to
show sound states. -/

namespace Sys2Proof.Machine

/-- `p` holds of every test kind. -/
def allKinds (p : TestKind → Bool) : Bool := p .srv && p .cli && p .wd

theorem allKinds_spec {p : TestKind → Bool} (h : allKinds p = true) (k : TestKind) : p k = true := by
  simp only [allKinds, Bool.and_eq_true] at h
  cases k <;> simp [h]

/-- `p` holds of every number below `n`. -/
def allBelow (n : Nat) (p : Nat → Bool) : Bool := (List.range n).all p

theorem allBelow_spec {n : Nat} {p : Nat → Bool} (h : allBelow n p = true) {i : Nat} (hi : i < n) : p i = true :=
  List.all_eq_true.mp h i (List.mem_range.mpr hi)

/-- `State.Shape`, checked. -/
def State.shapeCheck (s : State) : Bool :=
  s.cfg.legal && decide (s.slots.length = s.cfg.nSlot) && decide (s.sats.length = s.cfg.maxSats)
    && decide (s.conf.scanInterval = BitVec.ofNat 8 s.cfg.scanIntervalMs)
    && decide (s.conf.maxSats = BitVec.ofNat 8 s.cfg.maxSats)
    && decide (s.conf.linkAddr = BitVec.ofNat 8 s.cfg.linkAddr) && decide (s.line.level = s.cfg.idleLevel)

theorem shape_of_check {s : State} (h : s.shapeCheck = true) : s.Shape := by
  simp only [State.shapeCheck, Bool.and_eq_true, decide_eq_true_eq] at h
  obtain ⟨⟨⟨⟨⟨⟨h1, h2⟩, h3⟩, h4⟩, h5⟩, h6⟩, h7⟩ := h
  exact ⟨h1, h2, h3, h4, h5, h6, h7⟩

/-- `State.QueueSound`, `ThresholdsOrdered`, `AdmSound` and `TimesSound`, checked. -/
def State.plainCheck (s : State) : Bool :=
  (match s.cfg.evqDepth with | none => true | some d => decide (s.evq.length ≤ d))
    && s.evq.all (fun w => decide (1 ≤ eventType w) && decide (eventType w ≤ 6))
    && decide (s.link.thresLow < s.link.thresHigh) && s.sats.all (fun x => decide (x.thresLow < x.thresHigh))
    && decide (hasBit s.link.op opDisabled = true ↔ s.link.adm = .disable)
    && s.sats.all (fun x => decide (hasBit x.op opDisabled = true ↔ x.adm = .disable))
    && decide (s.time.secBase ≤ s.time.t5) && decide (s.time.t5 ≤ s.env.clock)
    && decide (s.time.periodBase ≤ s.env.clock + s.conf.scanInterval.toNat)
    && (decide (s.scanPhase = .wait) || decide (s.time.periodBase ≤ s.env.clock))
    && decide (s.reest.deadline ≤ s.env.clock + s.cfg.tReestablishMs)

theorem plain_of_check {s : State} (h : s.plainCheck = true) :
    s.QueueSound ∧ s.ThresholdsOrdered ∧ s.AdmSound ∧ s.TimesSound := by
  simp only [State.plainCheck, Bool.and_eq_true, Bool.or_eq_true, decide_eq_true_eq, List.all_eq_true] at h
  obtain ⟨⟨⟨⟨⟨⟨⟨⟨⟨⟨h1, h2⟩, h3⟩, h4⟩, h5⟩, h6⟩, h7⟩, h8⟩, h9⟩, h10⟩, h11⟩ := h
  refine ⟨⟨fun d hd => ?_, h2⟩, ⟨h3, h4⟩, ⟨h5, h6⟩, ⟨h7, h8, h9, fun hn => ?_, h11⟩⟩
  · rw [hd] at h1
    simpa using h1
  · exact h10.resolve_left hn

/-- `State.Cascaded` and `State.DiscoverySound`, checked. -/
def State.controlCheck (s : State) : Bool :=
  allBelow s.cfg.maxSats (fun a => !s.satPresent a
      || decide (hasBit (s.sat a).op opControlBlocked = true ↔ s.link.op ≠ 0))
    && !hasBit s.link.op opControlBlocked && s.sats.all (fun x => !hasBit x.op opInit)
    && (match s.disc.state with
      | .idle => decide (s.activeSlots ≤ s.cfg.maxSats)
          && allBelow s.cfg.maxSats (fun a => decide (s.satPresent a = true ↔ a < s.activeSlots))
      | _ => hasBit s.link.op opInit && decide (s.activeSlots = s.cfg.maxSats + 1)
          && allBelow s.cfg.maxSats (fun a => !s.satPresent a) && decide (s.disc.cnt ≠ 0)
          && (decide (s.disc.state ≠ .probe) || decide (s.disc.cnt.toNat ≤ 2 * s.cfg.settleCycles))
          && (decide (s.disc.state ≠ .clear) ||
            (decide (s.disc.cnt.toNat ≤ s.cfg.settleCycles) && decide (s.disc.result.toNat ≤ s.cfg.maxSats))))

theorem satPresent_lt {s : State} {a : Nat} (h : s.satPresent a = true) : a < s.cfg.maxSats := by
  simp only [State.satPresent, Bool.and_eq_true, decide_eq_true_eq] at h
  exact h.1

theorem control_of_check {s : State} (h : s.controlCheck = true) : s.Cascaded ∧ s.DiscoverySound := by
  simp only [State.controlCheck, Bool.and_eq_true, Bool.not_eq_true', List.all_eq_true] at h
  obtain ⟨⟨⟨h1, h2⟩, h3⟩, h4⟩ := h
  refine ⟨⟨fun a ha => ?_, h2, h3⟩, ?_⟩
  · have := allBelow_spec h1 (satPresent_lt ha)
    rw [ha, Bool.not_true, Bool.false_or] at this
    exact of_decide_eq_true this
  · cases hs : s.disc.state with
    | idle =>
      rw [hs] at h4
      simp only [Bool.and_eq_true, decide_eq_true_eq] at h4
      refine ⟨fun hn => absurd hs hn, fun hp => by simp [hs] at hp, fun hp => by simp [hs] at hp,
        fun _ => ⟨h4.1, fun a => ?_⟩⟩
      by_cases ha : a < s.cfg.maxSats
      · exact of_decide_eq_true (allBelow_spec h4.2 ha)
      · constructor
        · intro hp
          exact absurd (satPresent_lt hp) ha
        · intro hl
          omega
    | probe =>
      rw [hs] at h4
      simp only [Bool.and_eq_true, Bool.or_eq_true, decide_eq_true_eq] at h4
      obtain ⟨⟨⟨⟨⟨g1, g2⟩, g3⟩, g4⟩, g5⟩, g6⟩ := h4
      refine ⟨fun _ => ⟨g1, g2, fun a => ?_, g4⟩, fun _ => by simpa using g5, fun hp => by simp [hs] at hp,
        fun hp => by simp [hs] at hp⟩
      by_contra hp
      have hp' : s.satPresent a = true := by simpa using hp
      have := allBelow_spec g3 (satPresent_lt hp')
      simp [hp'] at this
    | clear =>
      rw [hs] at h4
      simp only [Bool.and_eq_true, Bool.or_eq_true, decide_eq_true_eq] at h4
      obtain ⟨⟨⟨⟨⟨g1, g2⟩, g3⟩, g4⟩, g5⟩, g6⟩ := h4
      refine ⟨fun _ => ⟨g1, g2, fun a => ?_, g4⟩, fun hp => by simp [hs] at hp, fun _ => by simpa using g6,
        fun hp => by simp [hs] at hp⟩
      by_contra hp
      have hp' : s.satPresent a = true := by simpa using hp
      have := allBelow_spec g3 (satPresent_lt hp')
      simp [hp'] at this

/-- A test mode whose count is in 1..N_DEACT, checked. -/
def TestMode.rangeCheck (nDeact : Nat) : TestMode → Bool
  | .deactivating n => decide (1 ≤ n.toNat) && decide (n.toNat ≤ nDeact)
  | _ => true

theorem inRange_of_check {n : Nat} {m : TestMode} (h : m.rangeCheck n = true) : m.inRange n := by
  cases m <;> simp_all [TestMode.rangeCheck, TestMode.inRange]

/-- The other invariants, checked; a slot that is not dirty is looked at in full. -/
def State.slotCheck (s : State) : Bool :=
  s.slots.all (fun sl => allKinds fun k => (sl.tm.get k).rangeCheck s.cfg.nDeact)
    && allBelow s.slots.length (fun i => decide (i < s.activeSlots)
      || allKinds fun k => decide ((s.slot i).tm.get k = .inactive))
    && s.sats.all (fun x => if x.stPhase = .idle then decide (x.stCnt = 0) && !x.stImplicit
      else x.present && decide (1 ≤ x.stCnt.toNat) && decide (x.stCnt.toNat ≤ s.cfg.selftestPhaseCycles))
    && !(s.cyc.sym && s.cyc.size)
    && (decide (s.scanPhase ≠ .process) || s.cyc.sym || s.cyc.size
      || decide (s.cyc.rxBuf.length = 64 * s.activeSlots))
    && allBelow s.slots.length (fun i => decide ((s.slot i).txReq = s.expectedRequests i))
    && allBelow s.slots.length (fun i => (s.slot i).txDirty
      || decide ((s.slot i).txBytes
          = encodeFrame s.cfg (txFields i (s.slot i) (s.satWorking i)) (s.slot i).tm.srv.isActive))
    && s.slots.all (fun sl => sl.txDirty
      || allKinds fun k => decide (sl.tm.get k = .active ↔ sl.txReq.get k = true))

theorem getD_slot {s : State} {i : Nat} {sl : Slot} (h : s.slots[i]? = some sl) : s.slot i = sl := by
  simp [State.slot, h]

theorem lt_of_slot {s : State} {i : Nat} {sl : Slot} (h : s.slots[i]? = some sl) : i < s.slots.length :=
  (List.getElem?_eq_some_iff.mp h).1

theorem slot_of_check {s : State} (h : s.slotCheck = true) :
    s.ModesSound ∧ s.SelftestsSound ∧ s.CycleSound ∧ s.RequestsSound ∧ s.WireCurrent := by
  simp only [State.slotCheck, Bool.and_eq_true, Bool.not_eq_true', List.all_eq_true] at h
  obtain ⟨⟨⟨⟨⟨⟨⟨h1, h2⟩, h3⟩, h4⟩, h5⟩, h6⟩, h7⟩, h8⟩ := h
  refine ⟨⟨fun sl hs k => inRange_of_check (allKinds_spec (h1 sl hs) k), fun i hi k => ?_⟩,
    ⟨fun x hx hp => ?_, fun x hx hp => ?_⟩, ⟨by simpa using h4, fun hp hs hz => ?_⟩, fun i sl hi => ?_,
    ⟨fun i sl hi hd => ?_, fun sl hs hd k => ?_⟩⟩
  · by_cases hl : i < s.slots.length
    · have := allBelow_spec h2 hl
      rw [Bool.or_eq_true] at this
      rcases this with h | h
      · have hlt : i < s.activeSlots := by simpa using h
        omega
      · simpa using allKinds_spec h k
    · simp only [State.slot, List.getElem?_eq_none (Nat.not_lt.mp hl), Option.getD_none]
      cases k <;> rfl
  · have := h3 x hx
    rw [if_neg hp] at this
    simp only [Bool.and_eq_true, decide_eq_true_eq] at this
    exact ⟨this.1.1, this.1.2, this.2⟩
  · have := h3 x hx
    rw [if_pos hp] at this
    simpa using this
  · simpa [hp, hs, hz] using h5
  · have := allBelow_spec h6 (lt_of_slot hi)
    rw [getD_slot hi] at this
    simpa using this
  · have := allBelow_spec h7 (lt_of_slot hi)
    rw [getD_slot hi] at this
    simpa [hd] using this
  · have := h8 sl hs
    rw [hd, Bool.false_or] at this
    exact of_decide_eq_true (allKinds_spec this k)

/-- Every invariant, checked. -/
def State.check (s : State) : Bool := s.shapeCheck && s.plainCheck && s.controlCheck && s.slotCheck

theorem sound_of_check {s : State} (h : s.check = true) : s.Sound := by
  simp only [State.check, Bool.and_eq_true] at h
  obtain ⟨⟨⟨h1, h2⟩, h3⟩, h4⟩ := h
  obtain ⟨q, th, ad, ti⟩ := plain_of_check h2
  obtain ⟨ca, di⟩ := control_of_check h3
  obtain ⟨mo, se, cy, re, wi⟩ := slot_of_check h4
  exact ⟨shape_of_check h1, q, th, ca, ad, di, mo, se, ti, cy, re, wi⟩

end Sys2Proof.Machine
end

