-- ==== Sys2Proof/Laws/Codec.lean ====
section
/-! SUPPORT. The frame codec and the bit transport: one lemma for each step of their recursions. -/

namespace Sys2Proof.Machine

open Sys2Proof.Config (Params)

/-- One CRC step is linear in the accumulator and the bit together. -/
theorem crcStep_xor (a b : BitVec 5) (x y : Bool) :
    crcStep .direct (a ^^^ b) (x ^^ y) = crcStep .direct a x ^^^ crcStep .direct b y := by
  revert a b x y
  unfold crcStep
  decide

theorem crcFold_xor (l m : List Bool) (h : l.length = m.length) (a b : BitVec 5) :
    (List.zipWith (fun x y => x ^^ y) l m).foldl (crcStep .direct) (a ^^^ b)
      = l.foldl (crcStep .direct) a ^^^ m.foldl (crcStep .direct) b := by
  induction l generalizing m a b with
  | nil => cases m <;> simp_all
  | cons x l ih =>
    cases m with
    | nil => simp at h
    | cons y m => simp only [List.zipWith_cons_cons, List.foldl_cons, crcStep_xor]; exact ih m (by simpa using h) _ _

theorem crcCoveredBits_length (b : FrameWord) : (crcCoveredBits b).length = 60 := by simp [crcCoveredBits]

theorem frameBits_length (w : FrameWord) : (frameBits w).length = 64 := by simp [frameBits]

@[simp] theorem pulses_nil (p : Params) : pulses p [] = [] := rfl

theorem pulses_cons (p : Params) (w : FrameWord) (ws : List FrameWord) :
    pulses p (w :: ws) = (frameBits w).map (bitPulse p) ++ pulses p ws := rfl

@[simp] theorem depulseBits_nil (p : Params) : depulseBits p [] = some [] := rfl

/-- The last pulse is classified and its period is not checked. -/
theorem depulseBits_one (p : Params) (x : Pulse) : depulseBits p [x] = (classify p x.markTicks).map ([·]) := by
  simp only [depulseBits]
  cases classify p x.markTicks <;> rfl

/-- Every other pulse is classified and its period checked. -/
theorem depulseBits_cons_cons (p : Params) (x y : Pulse) (xs : List Pulse) :
    depulseBits p (x :: y :: xs) =
      match classify p x.markTicks with
      | none => none
      | some v => if periodOk p x then (depulseBits p (y :: xs)).map (v :: ·) else none := by
  rw [depulseBits]
  cases classify p x.markTicks with
  | none => rfl
  | some v => cases hp : periodOk p x <;> simp

theorem depulseBits_length {p : Params} {xs : List Pulse} {bits : List Bool} (h : depulseBits p xs = some bits) :
    bits.length = xs.length := by
  induction xs generalizing bits with
  | nil => simp_all
  | cons x xs ih =>
    rw [depulseBits] at h
    split at h
    · cases h
    split at h
    · cases h
    · obtain ⟨bs, hb, rfl⟩ := Option.map_eq_some_iff.mp h
      simp [ih hb]

/-- What `depulse` answers says which check it was. -/
theorem depulse_ok_iff (p : Params) (xs : List Pulse) (n : Nat) (bits : List Bool) :
    depulse p (some xs) n = .ok bits ↔
      framingError p xs = false ∧ depulseBits p xs = some bits ∧ bits.length = n := by
  simp only [depulse, Option.getD_some]
  cases framingError p xs
  · simp only [Bool.false_eq_true, if_false, true_and]
    cases h : depulseBits p xs with
    | none => simp
    | some b =>
      simp only [Option.some.injEq]
      split
      · simp only [RxResult.ok.injEq]
        constructor
        · rintro rfl
          exact ⟨rfl, by assumption⟩
        · exact fun h => h.1
      · constructor
        · intro h
          cases h
        · rintro ⟨rfl, h2⟩
          contradiction
  · simp

end Sys2Proof.Machine
end

