-- ==== Sys2Proof/Laws/State.lean ====
section
/-! SUPPORT. One lemma per field of State for each plain update of Machine/Ops.lean. -/

namespace Sys2Proof.Machine

variable (s : State)

@[simp] theorem setPhase_cfg (p : ScanPhase) : (s.setPhase p).cfg = s.cfg := rfl
@[simp] theorem setPhase_scanPhase (p : ScanPhase) : (s.setPhase p).scanPhase = p := rfl
@[simp] theorem setPhase_conf (p : ScanPhase) : (s.setPhase p).conf = s.conf := rfl
@[simp] theorem setPhase_link (p : ScanPhase) : (s.setPhase p).link = s.link := rfl
@[simp] theorem setPhase_slots (p : ScanPhase) : (s.setPhase p).slots = s.slots := rfl
@[simp] theorem setPhase_sats (p : ScanPhase) : (s.setPhase p).sats = s.sats := rfl
@[simp] theorem setPhase_disc (p : ScanPhase) : (s.setPhase p).disc = s.disc := rfl
@[simp] theorem setPhase_reest (p : ScanPhase) : (s.setPhase p).reest = s.reest := rfl
@[simp] theorem setPhase_cyc (p : ScanPhase) : (s.setPhase p).cyc = s.cyc := rfl
@[simp] theorem setPhase_host (p : ScanPhase) : (s.setPhase p).host = s.host := rfl
@[simp] theorem setPhase_evq (p : ScanPhase) : (s.setPhase p).evq = s.evq := rfl
@[simp] theorem setPhase_evOvf (p : ScanPhase) : (s.setPhase p).evOvf = s.evOvf := rfl
@[simp] theorem setPhase_time (p : ScanPhase) : (s.setPhase p).time = s.time := rfl
@[simp] theorem setPhase_line (p : ScanPhase) : (s.setPhase p).line = s.line := rfl
@[simp] theorem setPhase_readValue (p : ScanPhase) : (s.setPhase p).readValue = s.readValue := rfl
@[simp] theorem setPhase_env (p : ScanPhase) : (s.setPhase p).env = s.env := rfl

@[simp] theorem setLink_cfg (l : LinkRegs) : (s.setLink l).cfg = s.cfg := rfl
@[simp] theorem setLink_scanPhase (l : LinkRegs) : (s.setLink l).scanPhase = s.scanPhase := rfl
@[simp] theorem setLink_conf (l : LinkRegs) : (s.setLink l).conf = s.conf := rfl
@[simp] theorem setLink_link (l : LinkRegs) : (s.setLink l).link = l := rfl
@[simp] theorem setLink_slots (l : LinkRegs) : (s.setLink l).slots = s.slots := rfl
@[simp] theorem setLink_sats (l : LinkRegs) : (s.setLink l).sats = s.sats := rfl
@[simp] theorem setLink_disc (l : LinkRegs) : (s.setLink l).disc = s.disc := rfl
@[simp] theorem setLink_reest (l : LinkRegs) : (s.setLink l).reest = s.reest := rfl
@[simp] theorem setLink_cyc (l : LinkRegs) : (s.setLink l).cyc = s.cyc := rfl
@[simp] theorem setLink_host (l : LinkRegs) : (s.setLink l).host = s.host := rfl
@[simp] theorem setLink_evq (l : LinkRegs) : (s.setLink l).evq = s.evq := rfl
@[simp] theorem setLink_evOvf (l : LinkRegs) : (s.setLink l).evOvf = s.evOvf := rfl
@[simp] theorem setLink_time (l : LinkRegs) : (s.setLink l).time = s.time := rfl
@[simp] theorem setLink_line (l : LinkRegs) : (s.setLink l).line = s.line := rfl
@[simp] theorem setLink_readValue (l : LinkRegs) : (s.setLink l).readValue = s.readValue := rfl
@[simp] theorem setLink_env (l : LinkRegs) : (s.setLink l).env = s.env := rfl

@[simp] theorem setSlots_cfg (x : List Slot) : (s.setSlots x).cfg = s.cfg := rfl
@[simp] theorem setSlots_scanPhase (x : List Slot) : (s.setSlots x).scanPhase = s.scanPhase := rfl
@[simp] theorem setSlots_conf (x : List Slot) : (s.setSlots x).conf = s.conf := rfl
@[simp] theorem setSlots_link (x : List Slot) : (s.setSlots x).link = s.link := rfl
@[simp] theorem setSlots_slots (x : List Slot) : (s.setSlots x).slots = x := rfl
@[simp] theorem setSlots_sats (x : List Slot) : (s.setSlots x).sats = s.sats := rfl
@[simp] theorem setSlots_disc (x : List Slot) : (s.setSlots x).disc = s.disc := rfl
@[simp] theorem setSlots_reest (x : List Slot) : (s.setSlots x).reest = s.reest := rfl
@[simp] theorem setSlots_cyc (x : List Slot) : (s.setSlots x).cyc = s.cyc := rfl
@[simp] theorem setSlots_host (x : List Slot) : (s.setSlots x).host = s.host := rfl
@[simp] theorem setSlots_evq (x : List Slot) : (s.setSlots x).evq = s.evq := rfl
@[simp] theorem setSlots_evOvf (x : List Slot) : (s.setSlots x).evOvf = s.evOvf := rfl
@[simp] theorem setSlots_time (x : List Slot) : (s.setSlots x).time = s.time := rfl
@[simp] theorem setSlots_line (x : List Slot) : (s.setSlots x).line = s.line := rfl
@[simp] theorem setSlots_readValue (x : List Slot) : (s.setSlots x).readValue = s.readValue := rfl
@[simp] theorem setSlots_env (x : List Slot) : (s.setSlots x).env = s.env := rfl

@[simp] theorem setSats_cfg (x : List Sat) : (s.setSats x).cfg = s.cfg := rfl
@[simp] theorem setSats_scanPhase (x : List Sat) : (s.setSats x).scanPhase = s.scanPhase := rfl
@[simp] theorem setSats_conf (x : List Sat) : (s.setSats x).conf = s.conf := rfl
@[simp] theorem setSats_link (x : List Sat) : (s.setSats x).link = s.link := rfl
@[simp] theorem setSats_slots (x : List Sat) : (s.setSats x).slots = s.slots := rfl
@[simp] theorem setSats_sats (x : List Sat) : (s.setSats x).sats = x := rfl
@[simp] theorem setSats_disc (x : List Sat) : (s.setSats x).disc = s.disc := rfl
@[simp] theorem setSats_reest (x : List Sat) : (s.setSats x).reest = s.reest := rfl
@[simp] theorem setSats_cyc (x : List Sat) : (s.setSats x).cyc = s.cyc := rfl
@[simp] theorem setSats_host (x : List Sat) : (s.setSats x).host = s.host := rfl
@[simp] theorem setSats_evq (x : List Sat) : (s.setSats x).evq = s.evq := rfl
@[simp] theorem setSats_evOvf (x : List Sat) : (s.setSats x).evOvf = s.evOvf := rfl
@[simp] theorem setSats_time (x : List Sat) : (s.setSats x).time = s.time := rfl
@[simp] theorem setSats_line (x : List Sat) : (s.setSats x).line = s.line := rfl
@[simp] theorem setSats_readValue (x : List Sat) : (s.setSats x).readValue = s.readValue := rfl
@[simp] theorem setSats_env (x : List Sat) : (s.setSats x).env = s.env := rfl

@[simp] theorem setDisc_cfg (d : DiscRegs) : (s.setDisc d).cfg = s.cfg := rfl
@[simp] theorem setDisc_scanPhase (d : DiscRegs) : (s.setDisc d).scanPhase = s.scanPhase := rfl
@[simp] theorem setDisc_conf (d : DiscRegs) : (s.setDisc d).conf = s.conf := rfl
@[simp] theorem setDisc_link (d : DiscRegs) : (s.setDisc d).link = s.link := rfl
@[simp] theorem setDisc_slots (d : DiscRegs) : (s.setDisc d).slots = s.slots := rfl
@[simp] theorem setDisc_sats (d : DiscRegs) : (s.setDisc d).sats = s.sats := rfl
@[simp] theorem setDisc_disc (d : DiscRegs) : (s.setDisc d).disc = d := rfl
@[simp] theorem setDisc_reest (d : DiscRegs) : (s.setDisc d).reest = s.reest := rfl
@[simp] theorem setDisc_cyc (d : DiscRegs) : (s.setDisc d).cyc = s.cyc := rfl
@[simp] theorem setDisc_host (d : DiscRegs) : (s.setDisc d).host = s.host := rfl
@[simp] theorem setDisc_evq (d : DiscRegs) : (s.setDisc d).evq = s.evq := rfl
@[simp] theorem setDisc_evOvf (d : DiscRegs) : (s.setDisc d).evOvf = s.evOvf := rfl
@[simp] theorem setDisc_time (d : DiscRegs) : (s.setDisc d).time = s.time := rfl
@[simp] theorem setDisc_line (d : DiscRegs) : (s.setDisc d).line = s.line := rfl
@[simp] theorem setDisc_readValue (d : DiscRegs) : (s.setDisc d).readValue = s.readValue := rfl
@[simp] theorem setDisc_env (d : DiscRegs) : (s.setDisc d).env = s.env := rfl

@[simp] theorem setReest_cfg (r : ReestRegs) : (s.setReest r).cfg = s.cfg := rfl
@[simp] theorem setReest_scanPhase (r : ReestRegs) : (s.setReest r).scanPhase = s.scanPhase := rfl
@[simp] theorem setReest_conf (r : ReestRegs) : (s.setReest r).conf = s.conf := rfl
@[simp] theorem setReest_link (r : ReestRegs) : (s.setReest r).link = s.link := rfl
@[simp] theorem setReest_slots (r : ReestRegs) : (s.setReest r).slots = s.slots := rfl
@[simp] theorem setReest_sats (r : ReestRegs) : (s.setReest r).sats = s.sats := rfl
@[simp] theorem setReest_disc (r : ReestRegs) : (s.setReest r).disc = s.disc := rfl
@[simp] theorem setReest_reest (r : ReestRegs) : (s.setReest r).reest = r := rfl
@[simp] theorem setReest_cyc (r : ReestRegs) : (s.setReest r).cyc = s.cyc := rfl
@[simp] theorem setReest_host (r : ReestRegs) : (s.setReest r).host = s.host := rfl
@[simp] theorem setReest_evq (r : ReestRegs) : (s.setReest r).evq = s.evq := rfl
@[simp] theorem setReest_evOvf (r : ReestRegs) : (s.setReest r).evOvf = s.evOvf := rfl
@[simp] theorem setReest_time (r : ReestRegs) : (s.setReest r).time = s.time := rfl
@[simp] theorem setReest_line (r : ReestRegs) : (s.setReest r).line = s.line := rfl
@[simp] theorem setReest_readValue (r : ReestRegs) : (s.setReest r).readValue = s.readValue := rfl
@[simp] theorem setReest_env (r : ReestRegs) : (s.setReest r).env = s.env := rfl

@[simp] theorem setCyc_cfg (c : CycleRegs) : (s.setCyc c).cfg = s.cfg := rfl
@[simp] theorem setCyc_scanPhase (c : CycleRegs) : (s.setCyc c).scanPhase = s.scanPhase := rfl
@[simp] theorem setCyc_conf (c : CycleRegs) : (s.setCyc c).conf = s.conf := rfl
@[simp] theorem setCyc_link (c : CycleRegs) : (s.setCyc c).link = s.link := rfl
@[simp] theorem setCyc_slots (c : CycleRegs) : (s.setCyc c).slots = s.slots := rfl
@[simp] theorem setCyc_sats (c : CycleRegs) : (s.setCyc c).sats = s.sats := rfl
@[simp] theorem setCyc_disc (c : CycleRegs) : (s.setCyc c).disc = s.disc := rfl
@[simp] theorem setCyc_reest (c : CycleRegs) : (s.setCyc c).reest = s.reest := rfl
@[simp] theorem setCyc_cyc (c : CycleRegs) : (s.setCyc c).cyc = c := rfl
@[simp] theorem setCyc_host (c : CycleRegs) : (s.setCyc c).host = s.host := rfl
@[simp] theorem setCyc_evq (c : CycleRegs) : (s.setCyc c).evq = s.evq := rfl
@[simp] theorem setCyc_evOvf (c : CycleRegs) : (s.setCyc c).evOvf = s.evOvf := rfl
@[simp] theorem setCyc_time (c : CycleRegs) : (s.setCyc c).time = s.time := rfl
@[simp] theorem setCyc_line (c : CycleRegs) : (s.setCyc c).line = s.line := rfl
@[simp] theorem setCyc_readValue (c : CycleRegs) : (s.setCyc c).readValue = s.readValue := rfl
@[simp] theorem setCyc_env (c : CycleRegs) : (s.setCyc c).env = s.env := rfl

@[simp] theorem setHost_cfg (h : HostRegs) : (s.setHost h).cfg = s.cfg := rfl
@[simp] theorem setHost_scanPhase (h : HostRegs) : (s.setHost h).scanPhase = s.scanPhase := rfl
@[simp] theorem setHost_conf (h : HostRegs) : (s.setHost h).conf = s.conf := rfl
@[simp] theorem setHost_link (h : HostRegs) : (s.setHost h).link = s.link := rfl
@[simp] theorem setHost_slots (h : HostRegs) : (s.setHost h).slots = s.slots := rfl
@[simp] theorem setHost_sats (h : HostRegs) : (s.setHost h).sats = s.sats := rfl
@[simp] theorem setHost_disc (h : HostRegs) : (s.setHost h).disc = s.disc := rfl
@[simp] theorem setHost_reest (h : HostRegs) : (s.setHost h).reest = s.reest := rfl
@[simp] theorem setHost_cyc (h : HostRegs) : (s.setHost h).cyc = s.cyc := rfl
@[simp] theorem setHost_host (h : HostRegs) : (s.setHost h).host = h := rfl
@[simp] theorem setHost_evq (h : HostRegs) : (s.setHost h).evq = s.evq := rfl
@[simp] theorem setHost_evOvf (h : HostRegs) : (s.setHost h).evOvf = s.evOvf := rfl
@[simp] theorem setHost_time (h : HostRegs) : (s.setHost h).time = s.time := rfl
@[simp] theorem setHost_line (h : HostRegs) : (s.setHost h).line = s.line := rfl
@[simp] theorem setHost_readValue (h : HostRegs) : (s.setHost h).readValue = s.readValue := rfl
@[simp] theorem setHost_env (h : HostRegs) : (s.setHost h).env = s.env := rfl

@[simp] theorem setEvents_cfg (q : List Word) (o : Bool) : (s.setEvents q o).cfg = s.cfg := rfl
@[simp] theorem setEvents_scanPhase (q : List Word) (o : Bool) : (s.setEvents q o).scanPhase = s.scanPhase := rfl
@[simp] theorem setEvents_conf (q : List Word) (o : Bool) : (s.setEvents q o).conf = s.conf := rfl
@[simp] theorem setEvents_link (q : List Word) (o : Bool) : (s.setEvents q o).link = s.link := rfl
@[simp] theorem setEvents_slots (q : List Word) (o : Bool) : (s.setEvents q o).slots = s.slots := rfl
@[simp] theorem setEvents_sats (q : List Word) (o : Bool) : (s.setEvents q o).sats = s.sats := rfl
@[simp] theorem setEvents_disc (q : List Word) (o : Bool) : (s.setEvents q o).disc = s.disc := rfl
@[simp] theorem setEvents_reest (q : List Word) (o : Bool) : (s.setEvents q o).reest = s.reest := rfl
@[simp] theorem setEvents_cyc (q : List Word) (o : Bool) : (s.setEvents q o).cyc = s.cyc := rfl
@[simp] theorem setEvents_host (q : List Word) (o : Bool) : (s.setEvents q o).host = s.host := rfl
@[simp] theorem setEvents_evq (q : List Word) (o : Bool) : (s.setEvents q o).evq = q := rfl
@[simp] theorem setEvents_evOvf (q : List Word) (o : Bool) : (s.setEvents q o).evOvf = o := rfl
@[simp] theorem setEvents_time (q : List Word) (o : Bool) : (s.setEvents q o).time = s.time := rfl
@[simp] theorem setEvents_line (q : List Word) (o : Bool) : (s.setEvents q o).line = s.line := rfl
@[simp] theorem setEvents_readValue (q : List Word) (o : Bool) : (s.setEvents q o).readValue = s.readValue := rfl
@[simp] theorem setEvents_env (q : List Word) (o : Bool) : (s.setEvents q o).env = s.env := rfl

@[simp] theorem setTime_cfg (t : TimeRegs) : (s.setTime t).cfg = s.cfg := rfl
@[simp] theorem setTime_scanPhase (t : TimeRegs) : (s.setTime t).scanPhase = s.scanPhase := rfl
@[simp] theorem setTime_conf (t : TimeRegs) : (s.setTime t).conf = s.conf := rfl
@[simp] theorem setTime_link (t : TimeRegs) : (s.setTime t).link = s.link := rfl
@[simp] theorem setTime_slots (t : TimeRegs) : (s.setTime t).slots = s.slots := rfl
@[simp] theorem setTime_sats (t : TimeRegs) : (s.setTime t).sats = s.sats := rfl
@[simp] theorem setTime_disc (t : TimeRegs) : (s.setTime t).disc = s.disc := rfl
@[simp] theorem setTime_reest (t : TimeRegs) : (s.setTime t).reest = s.reest := rfl
@[simp] theorem setTime_cyc (t : TimeRegs) : (s.setTime t).cyc = s.cyc := rfl
@[simp] theorem setTime_host (t : TimeRegs) : (s.setTime t).host = s.host := rfl
@[simp] theorem setTime_evq (t : TimeRegs) : (s.setTime t).evq = s.evq := rfl
@[simp] theorem setTime_evOvf (t : TimeRegs) : (s.setTime t).evOvf = s.evOvf := rfl
@[simp] theorem setTime_time (t : TimeRegs) : (s.setTime t).time = t := rfl
@[simp] theorem setTime_line (t : TimeRegs) : (s.setTime t).line = s.line := rfl
@[simp] theorem setTime_readValue (t : TimeRegs) : (s.setTime t).readValue = s.readValue := rfl
@[simp] theorem setTime_env (t : TimeRegs) : (s.setTime t).env = s.env := rfl

@[simp] theorem setLine_cfg (l : LineRegs) : (s.setLine l).cfg = s.cfg := rfl
@[simp] theorem setLine_scanPhase (l : LineRegs) : (s.setLine l).scanPhase = s.scanPhase := rfl
@[simp] theorem setLine_conf (l : LineRegs) : (s.setLine l).conf = s.conf := rfl
@[simp] theorem setLine_link (l : LineRegs) : (s.setLine l).link = s.link := rfl
@[simp] theorem setLine_slots (l : LineRegs) : (s.setLine l).slots = s.slots := rfl
@[simp] theorem setLine_sats (l : LineRegs) : (s.setLine l).sats = s.sats := rfl
@[simp] theorem setLine_disc (l : LineRegs) : (s.setLine l).disc = s.disc := rfl
@[simp] theorem setLine_reest (l : LineRegs) : (s.setLine l).reest = s.reest := rfl
@[simp] theorem setLine_cyc (l : LineRegs) : (s.setLine l).cyc = s.cyc := rfl
@[simp] theorem setLine_host (l : LineRegs) : (s.setLine l).host = s.host := rfl
@[simp] theorem setLine_evq (l : LineRegs) : (s.setLine l).evq = s.evq := rfl
@[simp] theorem setLine_evOvf (l : LineRegs) : (s.setLine l).evOvf = s.evOvf := rfl
@[simp] theorem setLine_time (l : LineRegs) : (s.setLine l).time = s.time := rfl
@[simp] theorem setLine_line (l : LineRegs) : (s.setLine l).line = l := rfl
@[simp] theorem setLine_readValue (l : LineRegs) : (s.setLine l).readValue = s.readValue := rfl
@[simp] theorem setLine_env (l : LineRegs) : (s.setLine l).env = s.env := rfl

@[simp] theorem setReadValue_cfg (v : Option Word) : (s.setReadValue v).cfg = s.cfg := rfl
@[simp] theorem setReadValue_scanPhase (v : Option Word) : (s.setReadValue v).scanPhase = s.scanPhase := rfl
@[simp] theorem setReadValue_conf (v : Option Word) : (s.setReadValue v).conf = s.conf := rfl
@[simp] theorem setReadValue_link (v : Option Word) : (s.setReadValue v).link = s.link := rfl
@[simp] theorem setReadValue_slots (v : Option Word) : (s.setReadValue v).slots = s.slots := rfl
@[simp] theorem setReadValue_sats (v : Option Word) : (s.setReadValue v).sats = s.sats := rfl
@[simp] theorem setReadValue_disc (v : Option Word) : (s.setReadValue v).disc = s.disc := rfl
@[simp] theorem setReadValue_reest (v : Option Word) : (s.setReadValue v).reest = s.reest := rfl
@[simp] theorem setReadValue_cyc (v : Option Word) : (s.setReadValue v).cyc = s.cyc := rfl
@[simp] theorem setReadValue_host (v : Option Word) : (s.setReadValue v).host = s.host := rfl
@[simp] theorem setReadValue_evq (v : Option Word) : (s.setReadValue v).evq = s.evq := rfl
@[simp] theorem setReadValue_evOvf (v : Option Word) : (s.setReadValue v).evOvf = s.evOvf := rfl
@[simp] theorem setReadValue_time (v : Option Word) : (s.setReadValue v).time = s.time := rfl
@[simp] theorem setReadValue_line (v : Option Word) : (s.setReadValue v).line = s.line := rfl
@[simp] theorem setReadValue_readValue (v : Option Word) : (s.setReadValue v).readValue = v := rfl
@[simp] theorem setReadValue_env (v : Option Word) : (s.setReadValue v).env = s.env := rfl

@[simp] theorem setEnv_cfg (e : Env) : (s.setEnv e).cfg = s.cfg := rfl
@[simp] theorem setEnv_scanPhase (e : Env) : (s.setEnv e).scanPhase = s.scanPhase := rfl
@[simp] theorem setEnv_conf (e : Env) : (s.setEnv e).conf = s.conf := rfl
@[simp] theorem setEnv_link (e : Env) : (s.setEnv e).link = s.link := rfl
@[simp] theorem setEnv_slots (e : Env) : (s.setEnv e).slots = s.slots := rfl
@[simp] theorem setEnv_sats (e : Env) : (s.setEnv e).sats = s.sats := rfl
@[simp] theorem setEnv_disc (e : Env) : (s.setEnv e).disc = s.disc := rfl
@[simp] theorem setEnv_reest (e : Env) : (s.setEnv e).reest = s.reest := rfl
@[simp] theorem setEnv_cyc (e : Env) : (s.setEnv e).cyc = s.cyc := rfl
@[simp] theorem setEnv_host (e : Env) : (s.setEnv e).host = s.host := rfl
@[simp] theorem setEnv_evq (e : Env) : (s.setEnv e).evq = s.evq := rfl
@[simp] theorem setEnv_evOvf (e : Env) : (s.setEnv e).evOvf = s.evOvf := rfl
@[simp] theorem setEnv_time (e : Env) : (s.setEnv e).time = s.time := rfl
@[simp] theorem setEnv_line (e : Env) : (s.setEnv e).line = s.line := rfl
@[simp] theorem setEnv_readValue (e : Env) : (s.setEnv e).readValue = s.readValue := rfl
@[simp] theorem setEnv_env (e : Env) : (s.setEnv e).env = e := rfl

end Sys2Proof.Machine
end

