-- ==== Sys2Proof/Laws/Ops.lean ====
section
/-! SUPPORT. What the shared operations of Machine/Ops.lean change and leave unchanged. -/

namespace Sys2Proof.Machine

variable (s : State)

/-! ## Slots, satellites and their frames -/

@[simp] theorem modifySlot_cfg (i : Nat) (g : Slot → Slot) : (s.modifySlot i g).cfg = s.cfg := by
  simp [State.modifySlot]
@[simp] theorem modifySlot_scanPhase (i : Nat) (g : Slot → Slot) : (s.modifySlot i g).scanPhase = s.scanPhase := by
  simp [State.modifySlot]
@[simp] theorem modifySlot_conf (i : Nat) (g : Slot → Slot) : (s.modifySlot i g).conf = s.conf := by
  simp [State.modifySlot]
@[simp] theorem modifySlot_link (i : Nat) (g : Slot → Slot) : (s.modifySlot i g).link = s.link := by
  simp [State.modifySlot]
@[simp] theorem modifySlot_sats (i : Nat) (g : Slot → Slot) : (s.modifySlot i g).sats = s.sats := by
  simp [State.modifySlot]
@[simp] theorem modifySlot_disc (i : Nat) (g : Slot → Slot) : (s.modifySlot i g).disc = s.disc := by
  simp [State.modifySlot]
@[simp] theorem modifySlot_reest (i : Nat) (g : Slot → Slot) : (s.modifySlot i g).reest = s.reest := by
  simp [State.modifySlot]
@[simp] theorem modifySlot_cyc (i : Nat) (g : Slot → Slot) : (s.modifySlot i g).cyc = s.cyc := by
  simp [State.modifySlot]
@[simp] theorem modifySlot_host (i : Nat) (g : Slot → Slot) : (s.modifySlot i g).host = s.host := by
  simp [State.modifySlot]
@[simp] theorem modifySlot_evq (i : Nat) (g : Slot → Slot) : (s.modifySlot i g).evq = s.evq := by
  simp [State.modifySlot]
@[simp] theorem modifySlot_evOvf (i : Nat) (g : Slot → Slot) : (s.modifySlot i g).evOvf = s.evOvf := by
  simp [State.modifySlot]
@[simp] theorem modifySlot_time (i : Nat) (g : Slot → Slot) : (s.modifySlot i g).time = s.time := by
  simp [State.modifySlot]
@[simp] theorem modifySlot_line (i : Nat) (g : Slot → Slot) : (s.modifySlot i g).line = s.line := by
  simp [State.modifySlot]
@[simp] theorem modifySlot_readValue (i : Nat) (g : Slot → Slot) : (s.modifySlot i g).readValue = s.readValue := by
  simp [State.modifySlot]
@[simp] theorem modifySlot_env (i : Nat) (g : Slot → Slot) : (s.modifySlot i g).env = s.env := by
  simp [State.modifySlot]

@[simp] theorem modifySat_cfg (a : Nat) (g : Sat → Sat) : (s.modifySat a g).cfg = s.cfg := by
  simp [State.modifySat]
@[simp] theorem modifySat_scanPhase (a : Nat) (g : Sat → Sat) : (s.modifySat a g).scanPhase = s.scanPhase := by
  simp [State.modifySat]
@[simp] theorem modifySat_conf (a : Nat) (g : Sat → Sat) : (s.modifySat a g).conf = s.conf := by
  simp [State.modifySat]
@[simp] theorem modifySat_link (a : Nat) (g : Sat → Sat) : (s.modifySat a g).link = s.link := by
  simp [State.modifySat]
@[simp] theorem modifySat_slots (a : Nat) (g : Sat → Sat) : (s.modifySat a g).slots = s.slots := by
  simp [State.modifySat]
@[simp] theorem modifySat_disc (a : Nat) (g : Sat → Sat) : (s.modifySat a g).disc = s.disc := by
  simp [State.modifySat]
@[simp] theorem modifySat_reest (a : Nat) (g : Sat → Sat) : (s.modifySat a g).reest = s.reest := by
  simp [State.modifySat]
@[simp] theorem modifySat_cyc (a : Nat) (g : Sat → Sat) : (s.modifySat a g).cyc = s.cyc := by
  simp [State.modifySat]
@[simp] theorem modifySat_host (a : Nat) (g : Sat → Sat) : (s.modifySat a g).host = s.host := by
  simp [State.modifySat]
@[simp] theorem modifySat_evq (a : Nat) (g : Sat → Sat) : (s.modifySat a g).evq = s.evq := by
  simp [State.modifySat]
@[simp] theorem modifySat_evOvf (a : Nat) (g : Sat → Sat) : (s.modifySat a g).evOvf = s.evOvf := by
  simp [State.modifySat]
@[simp] theorem modifySat_time (a : Nat) (g : Sat → Sat) : (s.modifySat a g).time = s.time := by
  simp [State.modifySat]
@[simp] theorem modifySat_line (a : Nat) (g : Sat → Sat) : (s.modifySat a g).line = s.line := by
  simp [State.modifySat]
@[simp] theorem modifySat_readValue (a : Nat) (g : Sat → Sat) : (s.modifySat a g).readValue = s.readValue := by
  simp [State.modifySat]
@[simp] theorem modifySat_env (a : Nat) (g : Sat → Sat) : (s.modifySat a g).env = s.env := by
  simp [State.modifySat]

@[simp] theorem modifySlot_slots (i : Nat) (g : Slot → Slot) : (s.modifySlot i g).slots = s.slots.modify i g := rfl
@[simp] theorem modifySat_sats (a : Nat) (g : Sat → Sat) : (s.modifySat a g).sats = s.sats.modify a g := rfl

@[simp] theorem writeTx_cfg (i : Nat) (g : Slot → Slot) : (s.writeTx i g).cfg = s.cfg := by
  simp [State.writeTx]
@[simp] theorem writeTx_scanPhase (i : Nat) (g : Slot → Slot) : (s.writeTx i g).scanPhase = s.scanPhase := by
  simp [State.writeTx]
@[simp] theorem writeTx_conf (i : Nat) (g : Slot → Slot) : (s.writeTx i g).conf = s.conf := by
  simp [State.writeTx]
@[simp] theorem writeTx_link (i : Nat) (g : Slot → Slot) : (s.writeTx i g).link = s.link := by
  simp [State.writeTx]
@[simp] theorem writeTx_sats (i : Nat) (g : Slot → Slot) : (s.writeTx i g).sats = s.sats := by
  simp [State.writeTx]
@[simp] theorem writeTx_disc (i : Nat) (g : Slot → Slot) : (s.writeTx i g).disc = s.disc := by
  simp [State.writeTx]
@[simp] theorem writeTx_reest (i : Nat) (g : Slot → Slot) : (s.writeTx i g).reest = s.reest := by
  simp [State.writeTx]
@[simp] theorem writeTx_cyc (i : Nat) (g : Slot → Slot) : (s.writeTx i g).cyc = s.cyc := by
  simp [State.writeTx]
@[simp] theorem writeTx_host (i : Nat) (g : Slot → Slot) : (s.writeTx i g).host = s.host := by
  simp [State.writeTx]
@[simp] theorem writeTx_evq (i : Nat) (g : Slot → Slot) : (s.writeTx i g).evq = s.evq := by
  simp [State.writeTx]
@[simp] theorem writeTx_evOvf (i : Nat) (g : Slot → Slot) : (s.writeTx i g).evOvf = s.evOvf := by
  simp [State.writeTx]
@[simp] theorem writeTx_time (i : Nat) (g : Slot → Slot) : (s.writeTx i g).time = s.time := by
  simp [State.writeTx]
@[simp] theorem writeTx_line (i : Nat) (g : Slot → Slot) : (s.writeTx i g).line = s.line := by
  simp [State.writeTx]
@[simp] theorem writeTx_readValue (i : Nat) (g : Slot → Slot) : (s.writeTx i g).readValue = s.readValue := by
  simp [State.writeTx]
@[simp] theorem writeTx_env (i : Nat) (g : Slot → Slot) : (s.writeTx i g).env = s.env := by
  simp [State.writeTx]

@[simp] theorem setTxReq_cfg (i : Nat) (k : TestKind) (v : Bool) : (s.setTxReq i k v).cfg = s.cfg := by
  simp [State.setTxReq]
@[simp] theorem setTxReq_scanPhase (i : Nat) (k : TestKind) (v : Bool) : (s.setTxReq i k v).scanPhase = s.scanPhase := by
  simp [State.setTxReq]
@[simp] theorem setTxReq_conf (i : Nat) (k : TestKind) (v : Bool) : (s.setTxReq i k v).conf = s.conf := by
  simp [State.setTxReq]
@[simp] theorem setTxReq_link (i : Nat) (k : TestKind) (v : Bool) : (s.setTxReq i k v).link = s.link := by
  simp [State.setTxReq]
@[simp] theorem setTxReq_sats (i : Nat) (k : TestKind) (v : Bool) : (s.setTxReq i k v).sats = s.sats := by
  simp [State.setTxReq]
@[simp] theorem setTxReq_disc (i : Nat) (k : TestKind) (v : Bool) : (s.setTxReq i k v).disc = s.disc := by
  simp [State.setTxReq]
@[simp] theorem setTxReq_reest (i : Nat) (k : TestKind) (v : Bool) : (s.setTxReq i k v).reest = s.reest := by
  simp [State.setTxReq]
@[simp] theorem setTxReq_cyc (i : Nat) (k : TestKind) (v : Bool) : (s.setTxReq i k v).cyc = s.cyc := by
  simp [State.setTxReq]
@[simp] theorem setTxReq_host (i : Nat) (k : TestKind) (v : Bool) : (s.setTxReq i k v).host = s.host := by
  simp [State.setTxReq]
@[simp] theorem setTxReq_evq (i : Nat) (k : TestKind) (v : Bool) : (s.setTxReq i k v).evq = s.evq := by
  simp [State.setTxReq]
@[simp] theorem setTxReq_evOvf (i : Nat) (k : TestKind) (v : Bool) : (s.setTxReq i k v).evOvf = s.evOvf := by
  simp [State.setTxReq]
@[simp] theorem setTxReq_time (i : Nat) (k : TestKind) (v : Bool) : (s.setTxReq i k v).time = s.time := by
  simp [State.setTxReq]
@[simp] theorem setTxReq_line (i : Nat) (k : TestKind) (v : Bool) : (s.setTxReq i k v).line = s.line := by
  simp [State.setTxReq]
@[simp] theorem setTxReq_readValue (i : Nat) (k : TestKind) (v : Bool) : (s.setTxReq i k v).readValue = s.readValue := by
  simp [State.setTxReq]
@[simp] theorem setTxReq_env (i : Nat) (k : TestKind) (v : Bool) : (s.setTxReq i k v).env = s.env := by
  simp [State.setTxReq]

@[simp] theorem setSatOp_cfg (a : Nat) (op : OpState) : (s.setSatOp a op).cfg = s.cfg := by
  unfold State.setSatOp; split <;> simp
@[simp] theorem setSatOp_scanPhase (a : Nat) (op : OpState) : (s.setSatOp a op).scanPhase = s.scanPhase := by
  unfold State.setSatOp; split <;> simp
@[simp] theorem setSatOp_conf (a : Nat) (op : OpState) : (s.setSatOp a op).conf = s.conf := by
  unfold State.setSatOp; split <;> simp
@[simp] theorem setSatOp_link (a : Nat) (op : OpState) : (s.setSatOp a op).link = s.link := by
  unfold State.setSatOp; split <;> simp
@[simp] theorem setSatOp_disc (a : Nat) (op : OpState) : (s.setSatOp a op).disc = s.disc := by
  unfold State.setSatOp; split <;> simp
@[simp] theorem setSatOp_reest (a : Nat) (op : OpState) : (s.setSatOp a op).reest = s.reest := by
  unfold State.setSatOp; split <;> simp
@[simp] theorem setSatOp_cyc (a : Nat) (op : OpState) : (s.setSatOp a op).cyc = s.cyc := by
  unfold State.setSatOp; split <;> simp
@[simp] theorem setSatOp_host (a : Nat) (op : OpState) : (s.setSatOp a op).host = s.host := by
  unfold State.setSatOp; split <;> simp
@[simp] theorem setSatOp_evq (a : Nat) (op : OpState) : (s.setSatOp a op).evq = s.evq := by
  unfold State.setSatOp; split <;> simp
@[simp] theorem setSatOp_evOvf (a : Nat) (op : OpState) : (s.setSatOp a op).evOvf = s.evOvf := by
  unfold State.setSatOp; split <;> simp
@[simp] theorem setSatOp_time (a : Nat) (op : OpState) : (s.setSatOp a op).time = s.time := by
  unfold State.setSatOp; split <;> simp
@[simp] theorem setSatOp_line (a : Nat) (op : OpState) : (s.setSatOp a op).line = s.line := by
  unfold State.setSatOp; split <;> simp
@[simp] theorem setSatOp_readValue (a : Nat) (op : OpState) : (s.setSatOp a op).readValue = s.readValue := by
  unfold State.setSatOp; split <;> simp
@[simp] theorem setSatOp_env (a : Nat) (op : OpState) : (s.setSatOp a op).env = s.env := by
  unfold State.setSatOp; split <;> simp

/-! ## The agents, events and command ends -/

@[simp] theorem tick_cfg : (s.tick).cfg = s.cfg := by
  unfold State.tick; split <;> simp
@[simp] theorem tick_scanPhase : (s.tick).scanPhase = s.scanPhase := by
  unfold State.tick; split <;> simp
@[simp] theorem tick_conf : (s.tick).conf = s.conf := by
  unfold State.tick; split <;> simp
@[simp] theorem tick_link : (s.tick).link = s.link := by
  unfold State.tick; split <;> simp
@[simp] theorem tick_slots : (s.tick).slots = s.slots := by
  unfold State.tick; split <;> simp
@[simp] theorem tick_sats : (s.tick).sats = s.sats := by
  unfold State.tick; split <;> simp
@[simp] theorem tick_disc : (s.tick).disc = s.disc := by
  unfold State.tick; split <;> simp
@[simp] theorem tick_reest : (s.tick).reest = s.reest := by
  unfold State.tick; split <;> simp
@[simp] theorem tick_cyc : (s.tick).cyc = s.cyc := by
  unfold State.tick; split <;> simp
@[simp] theorem tick_host : (s.tick).host = s.host := by
  unfold State.tick; split <;> simp
@[simp] theorem tick_evq : (s.tick).evq = s.evq := by
  unfold State.tick; split <;> simp
@[simp] theorem tick_evOvf : (s.tick).evOvf = s.evOvf := by
  unfold State.tick; split <;> simp
@[simp] theorem tick_time : (s.tick).time = s.time := by
  unfold State.tick; split <;> simp
@[simp] theorem tick_line : (s.tick).line = s.line := by
  unfold State.tick; split <;> simp
@[simp] theorem tick_readValue : (s.tick).readValue = s.readValue := by
  unfold State.tick; split <;> simp

@[simp] theorem busAdvance_cfg : (s.busAdvance).cfg = s.cfg := by
  unfold State.busAdvance; split <;> simp
@[simp] theorem busAdvance_scanPhase : (s.busAdvance).scanPhase = s.scanPhase := by
  unfold State.busAdvance; split <;> simp
@[simp] theorem busAdvance_conf : (s.busAdvance).conf = s.conf := by
  unfold State.busAdvance; split <;> simp
@[simp] theorem busAdvance_link : (s.busAdvance).link = s.link := by
  unfold State.busAdvance; split <;> simp
@[simp] theorem busAdvance_slots : (s.busAdvance).slots = s.slots := by
  unfold State.busAdvance; split <;> simp
@[simp] theorem busAdvance_sats : (s.busAdvance).sats = s.sats := by
  unfold State.busAdvance; split <;> simp
@[simp] theorem busAdvance_disc : (s.busAdvance).disc = s.disc := by
  unfold State.busAdvance; split <;> simp
@[simp] theorem busAdvance_reest : (s.busAdvance).reest = s.reest := by
  unfold State.busAdvance; split <;> simp
@[simp] theorem busAdvance_cyc : (s.busAdvance).cyc = s.cyc := by
  unfold State.busAdvance; split <;> simp
@[simp] theorem busAdvance_host : (s.busAdvance).host = s.host := by
  unfold State.busAdvance; split <;> simp
@[simp] theorem busAdvance_evq : (s.busAdvance).evq = s.evq := by
  unfold State.busAdvance; split <;> simp
@[simp] theorem busAdvance_evOvf : (s.busAdvance).evOvf = s.evOvf := by
  unfold State.busAdvance; split <;> simp
@[simp] theorem busAdvance_time : (s.busAdvance).time = s.time := by
  unfold State.busAdvance; split <;> simp
@[simp] theorem busAdvance_line : (s.busAdvance).line = s.line := by
  unfold State.busAdvance; split <;> simp
@[simp] theorem busAdvance_readValue : (s.busAdvance).readValue = s.readValue := by
  unfold State.busAdvance; split <;> simp

@[simp] theorem emit_cfg (e : Event) : (s.emit e).cfg = s.cfg := by
  unfold State.emit; split <;> simp
@[simp] theorem emit_scanPhase (e : Event) : (s.emit e).scanPhase = s.scanPhase := by
  unfold State.emit; split <;> simp
@[simp] theorem emit_conf (e : Event) : (s.emit e).conf = s.conf := by
  unfold State.emit; split <;> simp
@[simp] theorem emit_link (e : Event) : (s.emit e).link = s.link := by
  unfold State.emit; split <;> simp
@[simp] theorem emit_slots (e : Event) : (s.emit e).slots = s.slots := by
  unfold State.emit; split <;> simp
@[simp] theorem emit_sats (e : Event) : (s.emit e).sats = s.sats := by
  unfold State.emit; split <;> simp
@[simp] theorem emit_disc (e : Event) : (s.emit e).disc = s.disc := by
  unfold State.emit; split <;> simp
@[simp] theorem emit_reest (e : Event) : (s.emit e).reest = s.reest := by
  unfold State.emit; split <;> simp
@[simp] theorem emit_cyc (e : Event) : (s.emit e).cyc = s.cyc := by
  unfold State.emit; split <;> simp
@[simp] theorem emit_host (e : Event) : (s.emit e).host = s.host := by
  unfold State.emit; split <;> simp
@[simp] theorem emit_time (e : Event) : (s.emit e).time = s.time := by
  unfold State.emit; split <;> simp
@[simp] theorem emit_line (e : Event) : (s.emit e).line = s.line := by
  unfold State.emit; split <;> simp
@[simp] theorem emit_readValue (e : Event) : (s.emit e).readValue = s.readValue := by
  unfold State.emit; split <;> simp
@[simp] theorem emit_env (e : Event) : (s.emit e).env = s.env := by
  unfold State.emit; split <;> simp

@[simp] theorem raise_cfg (r : ResultCode) : (s.raise r).cfg = s.cfg := by
  simp [State.raise]
@[simp] theorem raise_scanPhase (r : ResultCode) : (s.raise r).scanPhase = s.scanPhase := by
  simp [State.raise]
@[simp] theorem raise_conf (r : ResultCode) : (s.raise r).conf = s.conf := by
  simp [State.raise]
@[simp] theorem raise_link (r : ResultCode) : (s.raise r).link = s.link := by
  simp [State.raise]
@[simp] theorem raise_slots (r : ResultCode) : (s.raise r).slots = s.slots := by
  simp [State.raise]
@[simp] theorem raise_sats (r : ResultCode) : (s.raise r).sats = s.sats := by
  simp [State.raise]
@[simp] theorem raise_disc (r : ResultCode) : (s.raise r).disc = s.disc := by
  simp [State.raise]
@[simp] theorem raise_reest (r : ResultCode) : (s.raise r).reest = s.reest := by
  simp [State.raise]
@[simp] theorem raise_cyc (r : ResultCode) : (s.raise r).cyc = s.cyc := by
  simp [State.raise]
@[simp] theorem raise_evq (r : ResultCode) : (s.raise r).evq = s.evq := by
  simp [State.raise]
@[simp] theorem raise_evOvf (r : ResultCode) : (s.raise r).evOvf = s.evOvf := by
  simp [State.raise]
@[simp] theorem raise_time (r : ResultCode) : (s.raise r).time = s.time := by
  simp [State.raise]
@[simp] theorem raise_line (r : ResultCode) : (s.raise r).line = s.line := by
  simp [State.raise]
@[simp] theorem raise_readValue (r : ResultCode) : (s.raise r).readValue = s.readValue := by
  simp [State.raise]
@[simp] theorem raise_env (r : ResultCode) : (s.raise r).env = s.env := by
  simp [State.raise]

@[simp] theorem complete_cfg (v : Word) : (s.complete v).cfg = s.cfg := by
  simp [State.complete]
@[simp] theorem complete_scanPhase (v : Word) : (s.complete v).scanPhase = s.scanPhase := by
  simp [State.complete]
@[simp] theorem complete_conf (v : Word) : (s.complete v).conf = s.conf := by
  simp [State.complete]
@[simp] theorem complete_link (v : Word) : (s.complete v).link = s.link := by
  simp [State.complete]
@[simp] theorem complete_slots (v : Word) : (s.complete v).slots = s.slots := by
  simp [State.complete]
@[simp] theorem complete_sats (v : Word) : (s.complete v).sats = s.sats := by
  simp [State.complete]
@[simp] theorem complete_disc (v : Word) : (s.complete v).disc = s.disc := by
  simp [State.complete]
@[simp] theorem complete_reest (v : Word) : (s.complete v).reest = s.reest := by
  simp [State.complete]
@[simp] theorem complete_cyc (v : Word) : (s.complete v).cyc = s.cyc := by
  simp [State.complete]
@[simp] theorem complete_evq (v : Word) : (s.complete v).evq = s.evq := by
  simp [State.complete]
@[simp] theorem complete_evOvf (v : Word) : (s.complete v).evOvf = s.evOvf := by
  simp [State.complete]
@[simp] theorem complete_time (v : Word) : (s.complete v).time = s.time := by
  simp [State.complete]
@[simp] theorem complete_line (v : Word) : (s.complete v).line = s.line := by
  simp [State.complete]
@[simp] theorem complete_readValue (v : Word) : (s.complete v).readValue = s.readValue := by
  simp [State.complete]
@[simp] theorem complete_env (v : Word) : (s.complete v).env = s.env := by
  simp [State.complete]

/-! ## The state machine -/

@[simp] theorem setOp_cfg (e : Entity) (v : OpState) : (s.setOp e v).cfg = s.cfg := by
  cases e <;> simp [State.setOp]
@[simp] theorem setOp_scanPhase (e : Entity) (v : OpState) : (s.setOp e v).scanPhase = s.scanPhase := by
  cases e <;> simp [State.setOp]
@[simp] theorem setOp_conf (e : Entity) (v : OpState) : (s.setOp e v).conf = s.conf := by
  cases e <;> simp [State.setOp]
@[simp] theorem setOp_disc (e : Entity) (v : OpState) : (s.setOp e v).disc = s.disc := by
  cases e <;> simp [State.setOp]
@[simp] theorem setOp_reest (e : Entity) (v : OpState) : (s.setOp e v).reest = s.reest := by
  cases e <;> simp [State.setOp]
@[simp] theorem setOp_cyc (e : Entity) (v : OpState) : (s.setOp e v).cyc = s.cyc := by
  cases e <;> simp [State.setOp]
@[simp] theorem setOp_host (e : Entity) (v : OpState) : (s.setOp e v).host = s.host := by
  cases e <;> simp [State.setOp]
@[simp] theorem setOp_evq (e : Entity) (v : OpState) : (s.setOp e v).evq = s.evq := by
  cases e <;> simp [State.setOp]
@[simp] theorem setOp_evOvf (e : Entity) (v : OpState) : (s.setOp e v).evOvf = s.evOvf := by
  cases e <;> simp [State.setOp]
@[simp] theorem setOp_time (e : Entity) (v : OpState) : (s.setOp e v).time = s.time := by
  cases e <;> simp [State.setOp]
@[simp] theorem setOp_line (e : Entity) (v : OpState) : (s.setOp e v).line = s.line := by
  cases e <;> simp [State.setOp]
@[simp] theorem setOp_readValue (e : Entity) (v : OpState) : (s.setOp e v).readValue = s.readValue := by
  cases e <;> simp [State.setOp]
@[simp] theorem setOp_env (e : Entity) (v : OpState) : (s.setOp e v).env = s.env := by
  cases e <;> simp [State.setOp]

@[simp] theorem reestArm_cfg : (s.reestArm).cfg = s.cfg := by
  simp [State.reestArm]
@[simp] theorem reestArm_scanPhase : (s.reestArm).scanPhase = s.scanPhase := by
  simp [State.reestArm]
@[simp] theorem reestArm_conf : (s.reestArm).conf = s.conf := by
  simp [State.reestArm]
@[simp] theorem reestArm_link : (s.reestArm).link = s.link := by
  simp [State.reestArm]
@[simp] theorem reestArm_slots : (s.reestArm).slots = s.slots := by
  simp [State.reestArm]
@[simp] theorem reestArm_sats : (s.reestArm).sats = s.sats := by
  simp [State.reestArm]
@[simp] theorem reestArm_disc : (s.reestArm).disc = s.disc := by
  simp [State.reestArm]
@[simp] theorem reestArm_cyc : (s.reestArm).cyc = s.cyc := by
  simp [State.reestArm]
@[simp] theorem reestArm_host : (s.reestArm).host = s.host := by
  simp [State.reestArm]
@[simp] theorem reestArm_evq : (s.reestArm).evq = s.evq := by
  simp [State.reestArm]
@[simp] theorem reestArm_evOvf : (s.reestArm).evOvf = s.evOvf := by
  simp [State.reestArm]
@[simp] theorem reestArm_time : (s.reestArm).time = s.time := by
  simp [State.reestArm]
@[simp] theorem reestArm_line : (s.reestArm).line = s.line := by
  simp [State.reestArm]
@[simp] theorem reestArm_readValue : (s.reestArm).readValue = s.readValue := by
  simp [State.reestArm]

@[simp] theorem blockOne_cfg (e : Entity) (flag : OpState) : (s.blockOne e flag).cfg = s.cfg := by
  simp [State.blockOne]
@[simp] theorem blockOne_scanPhase (e : Entity) (flag : OpState) : (s.blockOne e flag).scanPhase = s.scanPhase := by
  simp [State.blockOne]
@[simp] theorem blockOne_conf (e : Entity) (flag : OpState) : (s.blockOne e flag).conf = s.conf := by
  simp [State.blockOne]
@[simp] theorem blockOne_disc (e : Entity) (flag : OpState) : (s.blockOne e flag).disc = s.disc := by
  simp [State.blockOne]
@[simp] theorem blockOne_reest (e : Entity) (flag : OpState) : (s.blockOne e flag).reest = s.reest := by
  simp [State.blockOne]
@[simp] theorem blockOne_cyc (e : Entity) (flag : OpState) : (s.blockOne e flag).cyc = s.cyc := by
  simp [State.blockOne]
@[simp] theorem blockOne_host (e : Entity) (flag : OpState) : (s.blockOne e flag).host = s.host := by
  simp [State.blockOne]
@[simp] theorem blockOne_time (e : Entity) (flag : OpState) : (s.blockOne e flag).time = s.time := by
  simp [State.blockOne]
@[simp] theorem blockOne_line (e : Entity) (flag : OpState) : (s.blockOne e flag).line = s.line := by
  simp [State.blockOne]
@[simp] theorem blockOne_readValue (e : Entity) (flag : OpState) : (s.blockOne e flag).readValue = s.readValue := by
  simp [State.blockOne]
@[simp] theorem blockOne_env (e : Entity) (flag : OpState) : (s.blockOne e flag).env = s.env := by
  simp [State.blockOne]

@[simp] theorem resetCounters_cfg (e : Entity) : (s.resetCounters e).cfg = s.cfg := by
  cases e <;> simp [State.resetCounters]
@[simp] theorem resetCounters_scanPhase (e : Entity) : (s.resetCounters e).scanPhase = s.scanPhase := by
  cases e <;> simp [State.resetCounters]
@[simp] theorem resetCounters_conf (e : Entity) : (s.resetCounters e).conf = s.conf := by
  cases e <;> simp [State.resetCounters]
@[simp] theorem resetCounters_slots (e : Entity) : (s.resetCounters e).slots = s.slots := by
  cases e <;> simp [State.resetCounters]
@[simp] theorem resetCounters_disc (e : Entity) : (s.resetCounters e).disc = s.disc := by
  cases e <;> simp [State.resetCounters]
@[simp] theorem resetCounters_reest (e : Entity) : (s.resetCounters e).reest = s.reest := by
  cases e <;> simp [State.resetCounters]
@[simp] theorem resetCounters_cyc (e : Entity) : (s.resetCounters e).cyc = s.cyc := by
  cases e <;> simp [State.resetCounters]
@[simp] theorem resetCounters_host (e : Entity) : (s.resetCounters e).host = s.host := by
  cases e <;> simp [State.resetCounters]
@[simp] theorem resetCounters_evq (e : Entity) : (s.resetCounters e).evq = s.evq := by
  cases e <;> simp [State.resetCounters]
@[simp] theorem resetCounters_evOvf (e : Entity) : (s.resetCounters e).evOvf = s.evOvf := by
  cases e <;> simp [State.resetCounters]
@[simp] theorem resetCounters_time (e : Entity) : (s.resetCounters e).time = s.time := by
  cases e <;> simp [State.resetCounters]
@[simp] theorem resetCounters_line (e : Entity) : (s.resetCounters e).line = s.line := by
  cases e <;> simp [State.resetCounters]
@[simp] theorem resetCounters_readValue (e : Entity) : (s.resetCounters e).readValue = s.readValue := by
  cases e <;> simp [State.resetCounters]
@[simp] theorem resetCounters_env (e : Entity) : (s.resetCounters e).env = s.env := by
  cases e <;> simp [State.resetCounters]

@[simp] theorem countLink_cfg (k : LinkKind) : (s.countLink k).cfg = s.cfg := by
  simp [State.countLink]
@[simp] theorem countLink_scanPhase (k : LinkKind) : (s.countLink k).scanPhase = s.scanPhase := by
  simp [State.countLink]
@[simp] theorem countLink_conf (k : LinkKind) : (s.countLink k).conf = s.conf := by
  simp [State.countLink]
@[simp] theorem countLink_slots (k : LinkKind) : (s.countLink k).slots = s.slots := by
  simp [State.countLink]
@[simp] theorem countLink_sats (k : LinkKind) : (s.countLink k).sats = s.sats := by
  simp [State.countLink]
@[simp] theorem countLink_disc (k : LinkKind) : (s.countLink k).disc = s.disc := by
  simp [State.countLink]
@[simp] theorem countLink_reest (k : LinkKind) : (s.countLink k).reest = s.reest := by
  simp [State.countLink]
@[simp] theorem countLink_cyc (k : LinkKind) : (s.countLink k).cyc = s.cyc := by
  simp [State.countLink]
@[simp] theorem countLink_host (k : LinkKind) : (s.countLink k).host = s.host := by
  simp [State.countLink]
@[simp] theorem countLink_evq (k : LinkKind) : (s.countLink k).evq = s.evq := by
  simp [State.countLink]
@[simp] theorem countLink_evOvf (k : LinkKind) : (s.countLink k).evOvf = s.evOvf := by
  simp [State.countLink]
@[simp] theorem countLink_time (k : LinkKind) : (s.countLink k).time = s.time := by
  simp [State.countLink]
@[simp] theorem countLink_line (k : LinkKind) : (s.countLink k).line = s.line := by
  simp [State.countLink]
@[simp] theorem countLink_readValue (k : LinkKind) : (s.countLink k).readValue = s.readValue := by
  simp [State.countLink]
@[simp] theorem countLink_env (k : LinkKind) : (s.countLink k).env = s.env := by
  simp [State.countLink]

@[simp] theorem countSat_cfg (a : Nat) (k : SatKind) : (s.countSat a k).cfg = s.cfg := by
  simp [State.countSat]
@[simp] theorem countSat_scanPhase (a : Nat) (k : SatKind) : (s.countSat a k).scanPhase = s.scanPhase := by
  simp [State.countSat]
@[simp] theorem countSat_conf (a : Nat) (k : SatKind) : (s.countSat a k).conf = s.conf := by
  simp [State.countSat]
@[simp] theorem countSat_slots (a : Nat) (k : SatKind) : (s.countSat a k).slots = s.slots := by
  simp [State.countSat]
@[simp] theorem countSat_disc (a : Nat) (k : SatKind) : (s.countSat a k).disc = s.disc := by
  simp [State.countSat]
@[simp] theorem countSat_reest (a : Nat) (k : SatKind) : (s.countSat a k).reest = s.reest := by
  simp [State.countSat]
@[simp] theorem countSat_cyc (a : Nat) (k : SatKind) : (s.countSat a k).cyc = s.cyc := by
  simp [State.countSat]
@[simp] theorem countSat_host (a : Nat) (k : SatKind) : (s.countSat a k).host = s.host := by
  simp [State.countSat]
@[simp] theorem countSat_evq (a : Nat) (k : SatKind) : (s.countSat a k).evq = s.evq := by
  simp [State.countSat]
@[simp] theorem countSat_evOvf (a : Nat) (k : SatKind) : (s.countSat a k).evOvf = s.evOvf := by
  simp [State.countSat]
@[simp] theorem countSat_time (a : Nat) (k : SatKind) : (s.countSat a k).time = s.time := by
  simp [State.countSat]
@[simp] theorem countSat_line (a : Nat) (k : SatKind) : (s.countSat a k).line = s.line := by
  simp [State.countSat]
@[simp] theorem countSat_readValue (a : Nat) (k : SatKind) : (s.countSat a k).readValue = s.readValue := by
  simp [State.countSat]
@[simp] theorem countSat_env (a : Nat) (k : SatKind) : (s.countSat a k).env = s.env := by
  simp [State.countSat]

@[simp] theorem setAdm_cfg (e : Entity) (v : Adm) : (s.setAdm e v).cfg = s.cfg := by
  cases e <;> simp [State.setAdm]
@[simp] theorem setAdm_scanPhase (e : Entity) (v : Adm) : (s.setAdm e v).scanPhase = s.scanPhase := by
  cases e <;> simp [State.setAdm]
@[simp] theorem setAdm_conf (e : Entity) (v : Adm) : (s.setAdm e v).conf = s.conf := by
  cases e <;> simp [State.setAdm]
@[simp] theorem setAdm_slots (e : Entity) (v : Adm) : (s.setAdm e v).slots = s.slots := by
  cases e <;> simp [State.setAdm]
@[simp] theorem setAdm_disc (e : Entity) (v : Adm) : (s.setAdm e v).disc = s.disc := by
  cases e <;> simp [State.setAdm]
@[simp] theorem setAdm_reest (e : Entity) (v : Adm) : (s.setAdm e v).reest = s.reest := by
  cases e <;> simp [State.setAdm]
@[simp] theorem setAdm_cyc (e : Entity) (v : Adm) : (s.setAdm e v).cyc = s.cyc := by
  cases e <;> simp [State.setAdm]
@[simp] theorem setAdm_host (e : Entity) (v : Adm) : (s.setAdm e v).host = s.host := by
  cases e <;> simp [State.setAdm]
@[simp] theorem setAdm_evq (e : Entity) (v : Adm) : (s.setAdm e v).evq = s.evq := by
  cases e <;> simp [State.setAdm]
@[simp] theorem setAdm_evOvf (e : Entity) (v : Adm) : (s.setAdm e v).evOvf = s.evOvf := by
  cases e <;> simp [State.setAdm]
@[simp] theorem setAdm_time (e : Entity) (v : Adm) : (s.setAdm e v).time = s.time := by
  cases e <;> simp [State.setAdm]
@[simp] theorem setAdm_line (e : Entity) (v : Adm) : (s.setAdm e v).line = s.line := by
  cases e <;> simp [State.setAdm]
@[simp] theorem setAdm_readValue (e : Entity) (v : Adm) : (s.setAdm e v).readValue = s.readValue := by
  cases e <;> simp [State.setAdm]
@[simp] theorem setAdm_env (e : Entity) (v : Adm) : (s.setAdm e v).env = s.env := by
  cases e <;> simp [State.setAdm]

/-! ## What one link or satellite operation leaves of the other's state -/

@[simp] theorem setOp_sat_link (a : Nat) (v : OpState) : (s.setOp (.sat a) v).link = s.link := by
  simp [State.setOp]

@[simp] theorem blockOne_sat_link (a : Nat) (flag : OpState) : (s.blockOne (.sat a) flag).link = s.link := by
  simp [State.blockOne]

@[simp] theorem resetCounters_sat_link (a : Nat) : (s.resetCounters (.sat a)).link = s.link := by
  simp [State.resetCounters]

@[simp] theorem resetCounters_link_sats : (s.resetCounters .link).sats = s.sats := by
  simp [State.resetCounters]

@[simp] theorem setOp_link_sats (v : OpState) : (s.setOp .link v).sats = s.sats := by simp [State.setOp]

@[simp] theorem setOp_link_slots (v : OpState) : (s.setOp .link v).slots = s.slots := by simp [State.setOp]

@[simp] theorem blockOne_link_sats (flag : OpState) : (s.blockOne .link flag).sats = s.sats := by
  simp [State.blockOne]

@[simp] theorem blockOne_link_slots (flag : OpState) : (s.blockOne .link flag).slots = s.slots := by
  simp [State.blockOne]

@[simp] theorem blockOne_link_link (flag : OpState) :
    (s.blockOne .link flag).link = { s.link with op := s.link.op ||| flag } := by
  simp [State.blockOne, State.setOp, State.op]

@[simp] theorem setAdm_sat_link (a : Nat) (v : Adm) : (s.setAdm (.sat a) v).link = s.link := by
  simp [State.setAdm]


@[simp] theorem deblockSat_cfg (a : Nat) (flag : OpState) : (s.deblockSat a flag).cfg = s.cfg := by
  unfold State.deblockSat; simp only []; split <;> simp
@[simp] theorem deblockSat_scanPhase (a : Nat) (flag : OpState) : (s.deblockSat a flag).scanPhase = s.scanPhase := by
  unfold State.deblockSat; simp only []; split <;> simp
@[simp] theorem deblockSat_conf (a : Nat) (flag : OpState) : (s.deblockSat a flag).conf = s.conf := by
  unfold State.deblockSat; simp only []; split <;> simp
@[simp] theorem deblockSat_link (a : Nat) (flag : OpState) : (s.deblockSat a flag).link = s.link := by
  unfold State.deblockSat; simp only []; split <;> simp
@[simp] theorem deblockSat_disc (a : Nat) (flag : OpState) : (s.deblockSat a flag).disc = s.disc := by
  unfold State.deblockSat; simp only []; split <;> simp
@[simp] theorem deblockSat_reest (a : Nat) (flag : OpState) : (s.deblockSat a flag).reest = s.reest := by
  unfold State.deblockSat; simp only []; split <;> simp
@[simp] theorem deblockSat_cyc (a : Nat) (flag : OpState) : (s.deblockSat a flag).cyc = s.cyc := by
  unfold State.deblockSat; simp only []; split <;> simp
@[simp] theorem deblockSat_host (a : Nat) (flag : OpState) : (s.deblockSat a flag).host = s.host := by
  unfold State.deblockSat; simp only []; split <;> simp
@[simp] theorem deblockSat_time (a : Nat) (flag : OpState) : (s.deblockSat a flag).time = s.time := by
  unfold State.deblockSat; simp only []; split <;> simp
@[simp] theorem deblockSat_line (a : Nat) (flag : OpState) : (s.deblockSat a flag).line = s.line := by
  unfold State.deblockSat; simp only []; split <;> simp
@[simp] theorem deblockSat_readValue (a : Nat) (flag : OpState) : (s.deblockSat a flag).readValue = s.readValue := by
  unfold State.deblockSat; simp only []; split <;> simp
@[simp] theorem deblockSat_env (a : Nat) (flag : OpState) : (s.deblockSat a flag).env = s.env := by
  unfold State.deblockSat; simp only []; split <;> simp

/-! ## Reading one slot or satellite after an update -/

/-- A slot after one slot is changed. -/
theorem slot_modifySlot (i j : Nat) (g : Slot → Slot) :
    (s.modifySlot i g).slot j = if i = j ∧ j < s.slots.length then g (s.slot j) else s.slot j := by
  unfold State.slot
  rw [modifySlot_slots, List.getElem?_modify]
  by_cases hij : i = j
  · subst hij
    by_cases hl : i < s.slots.length
    · simp [hl]
    · simp [hl]
  · simp [hij]

/-- A satellite after one satellite is changed. -/
theorem sat_modifySat (a c : Nat) (g : Sat → Sat) :
    (s.modifySat a g).sat c = if a = c ∧ c < s.sats.length then g (s.sat c) else s.sat c := by
  unfold State.sat
  rw [modifySat_sats, List.getElem?_modify]
  by_cases hac : a = c
  · subst hac
    by_cases hl : a < s.sats.length
    · simp [hl]
    · simp [hl]
  · simp [hac]

/-- The satellites' number does not change. -/
@[simp] theorem modifySat_length (a : Nat) (g : Sat → Sat) :
    (s.modifySat a g).sats.length = s.sats.length := by simp

/-- The slots' number does not change. -/
@[simp] theorem modifySlot_length (i : Nat) (g : Slot → Slot) :
    (s.modifySlot i g).slots.length = s.slots.length := by simp

@[simp] theorem setSatOp_slots_length (a : Nat) (op : OpState) :
    (s.setSatOp a op).slots.length = s.slots.length := by
  unfold State.setSatOp; split <;> simp

@[simp] theorem setSatOp_sats (a : Nat) (op : OpState) :
    (s.setSatOp a op).sats = s.sats.modify a fun x => { x with op := op } := by
  unfold State.setSatOp; split <;> simp

/-- A satellite is present only inside the list. -/
theorem present_lt {s : State} {a : Nat} (h : s.satPresent a = true) : a < s.cfg.maxSats ∧ a < s.sats.length := by
  simp only [State.satPresent, Bool.and_eq_true, decide_eq_true_eq] at h
  refine ⟨h.1, ?_⟩
  by_contra hl
  have : s.sats[a]? = none := by simp; omega
  simp [State.sat, this, Sat.reset] at h

/-- Presence and reading of satellites depend on the satellites and the parameters alone. -/
theorem sat_congr {s t : State} (h : t.sats = s.sats) (a : Nat) : t.sat a = s.sat a := by
  simp [State.sat, h]

theorem satPresent_congr {s t : State} (hc : t.cfg = s.cfg) (h : t.sats = s.sats) (a : Nat) :
    t.satPresent a = s.satPresent a := by
  simp [State.satPresent, State.sat, h, hc]

theorem slot_congr {s t : State} (h : t.slots = s.slots) (i : Nat) : t.slot i = s.slot i := by
  simp [State.slot, h]

/-! ## Events -/

/-- `emit` appends the event's word or sets the overflow flag (spec/60_exceptions.md R286, R288). -/
theorem emit_spec (e : Event) :
    ((s.emit e).evq = s.evq ++ [e.word] ∧ (s.emit e).evOvf = s.evOvf ∧ s.evqFull = false)
      ∨ ((s.emit e).evq = s.evq ∧ (s.emit e).evOvf = true ∧ s.evqFull = true) := by
  unfold State.emit
  by_cases h : s.evqFull = true
  · right; simp [h]
  · left; simp [h]

/-- The CLOCK agent never goes back (spec/00_scope.md R8). -/
theorem tick_clock_le : s.env.clock ≤ s.tick.env.clock := by
  unfold State.tick; split <;> simp

/-! ## Walking over the satellites -/

/-- A property that each visit of an existing satellite keeps, `forEachSat` keeps. -/
theorem forEachSat_induct {P : State → Prop} {g : Nat → State → State}
    (hg : ∀ a t, P t → t.satPresent a = true → P (g a t)) (hs : P s) : P (s.forEachSat g) := by
  unfold State.forEachSat
  generalize s.addresses = l
  induction l generalizing s with
  | nil => exact hs
  | cons a l ih =>
    simp only [List.foldl_cons]
    apply ih
    split
    · exact hg a s hs ‹_›
    · exact hs

/-- What each visit leaves unchanged, `forEachSat` leaves unchanged. -/
theorem forEachSat_keeps {β : Type} (f : State → β) {g : Nat → State → State}
    (hg : ∀ a t, f (g a t) = f t) : f (s.forEachSat g) = f s :=
  forEachSat_induct s (P := fun t => f t = f s) (fun a t ht _ => (hg a t).trans ht) rfl

/-- A property that each step of a fold over addresses keeps, the fold keeps. -/
theorem foldl_induct {P : State → Prop} {g : State → Nat → State} (l : List Nat)
    (hg : ∀ a ∈ l, ∀ t, P t → P (g t a)) (hs : P s) : P (l.foldl g s) := by
  induction l generalizing s with
  | nil => exact hs
  | cons a l ih =>
    simp only [List.foldl_cons]
    exact ih _ (fun b hb t ht => hg b (List.mem_cons_of_mem _ hb) t ht) (hg a (List.mem_cons_self ..) s hs)

/-! ## opBlock and opDeBlock -/

@[simp] theorem opBlock_cfg (e : Entity) (flag : OpState) : (s.opBlock e flag).cfg = s.cfg := by
  cases e with
  | sat a => simp [State.opBlock]
  | link =>
    have h := forEachSat_keeps s (State.cfg) (g := fun a t => t.blockOne (.sat a) opControlBlocked) (by simp)
    unfold State.opBlock
    simp only []
    split <;> split <;> simp [h]

@[simp] theorem opBlock_scanPhase (e : Entity) (flag : OpState) : (s.opBlock e flag).scanPhase = s.scanPhase := by
  cases e with
  | sat a => simp [State.opBlock]
  | link =>
    have h := forEachSat_keeps s (State.scanPhase) (g := fun a t => t.blockOne (.sat a) opControlBlocked) (by simp)
    unfold State.opBlock
    simp only []
    split <;> split <;> simp [h]

@[simp] theorem opBlock_conf (e : Entity) (flag : OpState) : (s.opBlock e flag).conf = s.conf := by
  cases e with
  | sat a => simp [State.opBlock]
  | link =>
    have h := forEachSat_keeps s (State.conf) (g := fun a t => t.blockOne (.sat a) opControlBlocked) (by simp)
    unfold State.opBlock
    simp only []
    split <;> split <;> simp [h]

@[simp] theorem opBlock_disc (e : Entity) (flag : OpState) : (s.opBlock e flag).disc = s.disc := by
  cases e with
  | sat a => simp [State.opBlock]
  | link =>
    have h := forEachSat_keeps s (State.disc) (g := fun a t => t.blockOne (.sat a) opControlBlocked) (by simp)
    unfold State.opBlock
    simp only []
    split <;> split <;> simp [h]

@[simp] theorem opBlock_cyc (e : Entity) (flag : OpState) : (s.opBlock e flag).cyc = s.cyc := by
  cases e with
  | sat a => simp [State.opBlock]
  | link =>
    have h := forEachSat_keeps s (State.cyc) (g := fun a t => t.blockOne (.sat a) opControlBlocked) (by simp)
    unfold State.opBlock
    simp only []
    split <;> split <;> simp [h]

@[simp] theorem opBlock_host (e : Entity) (flag : OpState) : (s.opBlock e flag).host = s.host := by
  cases e with
  | sat a => simp [State.opBlock]
  | link =>
    have h := forEachSat_keeps s (State.host) (g := fun a t => t.blockOne (.sat a) opControlBlocked) (by simp)
    unfold State.opBlock
    simp only []
    split <;> split <;> simp [h]

@[simp] theorem opBlock_time (e : Entity) (flag : OpState) : (s.opBlock e flag).time = s.time := by
  cases e with
  | sat a => simp [State.opBlock]
  | link =>
    have h := forEachSat_keeps s (State.time) (g := fun a t => t.blockOne (.sat a) opControlBlocked) (by simp)
    unfold State.opBlock
    simp only []
    split <;> split <;> simp [h]

@[simp] theorem opBlock_line (e : Entity) (flag : OpState) : (s.opBlock e flag).line = s.line := by
  cases e with
  | sat a => simp [State.opBlock]
  | link =>
    have h := forEachSat_keeps s (State.line) (g := fun a t => t.blockOne (.sat a) opControlBlocked) (by simp)
    unfold State.opBlock
    simp only []
    split <;> split <;> simp [h]

@[simp] theorem opBlock_readValue (e : Entity) (flag : OpState) : (s.opBlock e flag).readValue = s.readValue := by
  cases e with
  | sat a => simp [State.opBlock]
  | link =>
    have h := forEachSat_keeps s (State.readValue) (g := fun a t => t.blockOne (.sat a) opControlBlocked) (by simp)
    unfold State.opBlock
    simp only []
    split <;> split <;> simp [h]

@[simp] theorem opDeBlock_cfg (e : Entity) (flag : OpState) : (s.opDeBlock e flag).cfg = s.cfg := by
  cases e with
  | sat a => simp [State.opDeBlock]
  | link =>
    have h := fun l => forEachSat_keeps (s.setLink l) (State.cfg) (g := fun a t => t.deblockSat a opControlBlocked) (by simp)
    unfold State.opDeBlock
    simp only []
    split <;> simp [h]

@[simp] theorem opDeBlock_scanPhase (e : Entity) (flag : OpState) : (s.opDeBlock e flag).scanPhase = s.scanPhase := by
  cases e with
  | sat a => simp [State.opDeBlock]
  | link =>
    have h := fun l => forEachSat_keeps (s.setLink l) (State.scanPhase) (g := fun a t => t.deblockSat a opControlBlocked) (by simp)
    unfold State.opDeBlock
    simp only []
    split <;> simp [h]

@[simp] theorem opDeBlock_conf (e : Entity) (flag : OpState) : (s.opDeBlock e flag).conf = s.conf := by
  cases e with
  | sat a => simp [State.opDeBlock]
  | link =>
    have h := fun l => forEachSat_keeps (s.setLink l) (State.conf) (g := fun a t => t.deblockSat a opControlBlocked) (by simp)
    unfold State.opDeBlock
    simp only []
    split <;> simp [h]

@[simp] theorem opDeBlock_disc (e : Entity) (flag : OpState) : (s.opDeBlock e flag).disc = s.disc := by
  cases e with
  | sat a => simp [State.opDeBlock]
  | link =>
    have h := fun l => forEachSat_keeps (s.setLink l) (State.disc) (g := fun a t => t.deblockSat a opControlBlocked) (by simp)
    unfold State.opDeBlock
    simp only []
    split <;> simp [h]

@[simp] theorem opDeBlock_reest (e : Entity) (flag : OpState) : (s.opDeBlock e flag).reest = s.reest := by
  cases e with
  | sat a => simp [State.opDeBlock]
  | link =>
    have h := fun l => forEachSat_keeps (s.setLink l) (State.reest) (g := fun a t => t.deblockSat a opControlBlocked) (by simp)
    unfold State.opDeBlock
    simp only []
    split <;> simp [h]

@[simp] theorem opDeBlock_cyc (e : Entity) (flag : OpState) : (s.opDeBlock e flag).cyc = s.cyc := by
  cases e with
  | sat a => simp [State.opDeBlock]
  | link =>
    have h := fun l => forEachSat_keeps (s.setLink l) (State.cyc) (g := fun a t => t.deblockSat a opControlBlocked) (by simp)
    unfold State.opDeBlock
    simp only []
    split <;> simp [h]

@[simp] theorem opDeBlock_host (e : Entity) (flag : OpState) : (s.opDeBlock e flag).host = s.host := by
  cases e with
  | sat a => simp [State.opDeBlock]
  | link =>
    have h := fun l => forEachSat_keeps (s.setLink l) (State.host) (g := fun a t => t.deblockSat a opControlBlocked) (by simp)
    unfold State.opDeBlock
    simp only []
    split <;> simp [h]

@[simp] theorem opDeBlock_time (e : Entity) (flag : OpState) : (s.opDeBlock e flag).time = s.time := by
  cases e with
  | sat a => simp [State.opDeBlock]
  | link =>
    have h := fun l => forEachSat_keeps (s.setLink l) (State.time) (g := fun a t => t.deblockSat a opControlBlocked) (by simp)
    unfold State.opDeBlock
    simp only []
    split <;> simp [h]

@[simp] theorem opDeBlock_line (e : Entity) (flag : OpState) : (s.opDeBlock e flag).line = s.line := by
  cases e with
  | sat a => simp [State.opDeBlock]
  | link =>
    have h := fun l => forEachSat_keeps (s.setLink l) (State.line) (g := fun a t => t.deblockSat a opControlBlocked) (by simp)
    unfold State.opDeBlock
    simp only []
    split <;> simp [h]

@[simp] theorem opDeBlock_readValue (e : Entity) (flag : OpState) : (s.opDeBlock e flag).readValue = s.readValue := by
  cases e with
  | sat a => simp [State.opDeBlock]
  | link =>
    have h := fun l => forEachSat_keeps (s.setLink l) (State.readValue) (g := fun a t => t.deblockSat a opControlBlocked) (by simp)
    unfold State.opDeBlock
    simp only []
    split <;> simp [h]

@[simp] theorem opDeBlock_env (e : Entity) (flag : OpState) : (s.opDeBlock e flag).env = s.env := by
  cases e with
  | sat a => simp [State.opDeBlock]
  | link =>
    have h := fun l => forEachSat_keeps (s.setLink l) (State.env) (g := fun a t => t.deblockSat a opControlBlocked) (by simp)
    unfold State.opDeBlock
    simp only []
    split <;> simp [h]

end Sys2Proof.Machine
end

