-- ==== Sys2Proof/Laws/Commands.lean ====
section
/-! SUPPORT. What a command can do, said once for all of them: it raises a result code and changes nothing else, or it
succeeds in one of the ways of `Succeeds`. -/

namespace Sys2Proof.Machine

/-- The states and read data in which a command can succeed from `s`, by what it changes. -/
inductive Succeeds (s : State) : State → Word → Prop
  | same (v : Word) : Succeeds s s v
  | tx (a : Nat) (g : Slot → Slot) (present : s.satPresent a = true)
      (keeps : ∀ sl, { g sl with txActVal := sl.txActVal, txActMode := sl.txActMode,
                                 txEnableReq := sl.txEnableReq } = sl) : Succeeds s (s.writeTx a g) 0
  | linkThres (hi lo : BitVec 16) (ordered : lo < hi) :
      Succeeds s (s.setLink { s.link with thresHigh := hi, thresLow := lo }) 0
  | satThres (a : Nat) (hi lo : BitVec 16) (present : s.satPresent a = true) (ordered : lo < hi) :
      Succeeds s (s.modifySat a fun x => { x with thresHigh := hi, thresLow := lo }) 0
  | linkCounters (cum sec : LinkCounters) (v : Word) :
      Succeeds s (s.setLink { s.link with cum := cum, sec := sec }) v
  | satCounters (a : Nat) (g : Sat → Sat) (v : Word) (present : s.satPresent a = true)
      (keeps : ∀ x, { g x with cum := x.cum, sec := x.sec, test := x.test } = x) : Succeeds s (s.modifySat a g) v
  | consume (a : Nat) (v : Word) (present : s.satPresent a = true) :
      Succeeds s (s.modifySlot a fun sl => { sl with status := { sl.status with dirty := false } }) v
  | linkEnable (off : s.link.adm = .disable) :
      Succeeds s (((s.setAdm .link .enable).opDeBlock .link opDisabled).afterDeBlock .link) 0
  | linkDisable (on : s.link.adm = .enable) (free : s.someSatEnabled = false) :
      Succeeds s ((s.setAdm .link .disable).opBlock .link opDisabled) 0
  | satEnable (a : Nat) (present : s.satPresent a = true) (off : (s.sat a).adm = .disable)
      (parent : s.link.adm = .enable) :
      Succeeds s (((s.setAdm (.sat a) .enable).opDeBlock (.sat a) opDisabled).afterDeBlock (.sat a)) 0
  | satDisable (a : Nat) (present : s.satPresent a = true) (on : (s.sat a).adm = .enable) :
      Succeeds s ((s.setAdm (.sat a) .disable).opBlock (.sat a) opDisabled) 0
  | selftest (a : Nat) (t : State) (present : s.satPresent a = true) (starts : s.selftestStart a false = .ok t) :
      Succeeds s t 0

variable (s : State)

/-- A successful `selftestStart` (spec/45_selftest.md R230). -/
theorem selftestStart_ok {s t : State} {a : Nat} {imp : Bool} (h : s.selftestStart a imp = .ok t) :
    (s.sat a).stPhase = .idle ∧ (s.sat a).op = 0
      ∧ t = (s.setTxReq a .srv true).modifySat a fun x =>
          { x with
            test := TestCounters.zero
            stPhase := .srv
            stCnt := BitVec.ofNat 16 s.cfg.selftestPhaseCycles
            stImplicit := imp } := by
  unfold State.selftestStart at h
  split at h
  · cases h
  · split at h
    · cases h
    · cases h
      exact ⟨by simp_all, by simp_all, rfl⟩

/-- A successful `admBlock` (spec/44_state_machine.md R215). -/
theorem admBlock_ok {s t : State} {e : Entity} (h : s.admBlock e = .ok t) :
    s.adm e = .enable ∧ (e = .link → s.someSatEnabled = false)
      ∧ t = (s.setAdm e .disable).opBlock e opDisabled := by
  unfold State.admBlock at h
  split at h
  · cases h
  · split at h
    · cases h
    · cases h
      exact ⟨by simp_all, by simp_all, rfl⟩

/-- A successful `admDeBlock` (spec/44_state_machine.md R216). -/
theorem admDeBlock_ok {s t : State} {e : Entity} (h : s.admDeBlock e = .ok t) :
    s.adm e = .disable ∧ (e ≠ .link → s.link.adm = .enable)
      ∧ t = ((s.setAdm e .enable).opDeBlock e opDisabled).afterDeBlock e := by
  unfold State.admDeBlock at h
  split at h
  · cases h
  · split at h
    · cases h
    · cases h
      refine ⟨by simp_all, fun he => ?_, rfl⟩
      by_contra hl
      simp_all

/-- How a command of an admin or self-test operation ends. -/
theorem runCommand_map (r : Except ResultCode State) :
    (∃ c, runCommand s (r.map fun t => (t, 0)) = .next (s.raise c))
      ∨ ∃ t, r = .ok t ∧ runCommand s (r.map fun t => (t, 0)) = .next (t.complete 0) := by
  cases r with
  | error c => exact .inl ⟨c, rfl⟩
  | ok t => exact .inr ⟨t, rfl, rfl⟩

/-- Everything a command can do (spec/46_host_commands.md R250). -/
theorem exec_spec (i : Instr) :
    (∃ c, exec i s = .next (s.raise c)) ∨ ∃ t v, Succeeds s t v ∧ exec i s = .next (t.complete v) := by
  cases i with
  | nop f =>
    simp only [exec, execNop]
    split
    · exact .inl ⟨_, rfl⟩
    · exact .inr ⟨_, _, .same 0, rfl⟩
  | setactval f =>
    simp only [exec, execSetActVal]
    split
    · exact .inl ⟨_, rfl⟩
    split
    · exact .inl ⟨_, rfl⟩
    split
    · exact .inl ⟨_, rfl⟩
    · refine .inr ⟨_, _, .tx _ _ ?_ ?_, rfl⟩
      · simp_all
      · exact fun _ => rfl
  | setactmode f =>
    simp only [exec, execSetActMode]
    split
    · exact .inl ⟨_, rfl⟩
    split
    · exact .inl ⟨_, rfl⟩
    split
    · exact .inl ⟨_, rfl⟩
    · refine .inr ⟨_, _, .tx _ _ ?_ ?_, rfl⟩
      · simp_all
      · exact fun _ => rfl
  | setsaten f =>
    simp only [exec, execSetSatEn]
    split
    · exact .inl ⟨_, rfl⟩
    split
    · exact .inl ⟨_, rfl⟩
    split
    · exact .inl ⟨_, rfl⟩
    · refine .inr ⟨_, _, .tx _ _ ?_ ?_, rfl⟩
      · simp_all
      · exact fun _ => rfl
  | linkenable f =>
    simp only [exec, execLinkEnable]
    split
    · exact .inl ⟨_, rfl⟩
    · rcases runCommand_map s (s.admDeBlock .link) with h | ⟨t, ht, h⟩
      · exact .inl h
      · obtain ⟨h1, _, rfl⟩ := admDeBlock_ok ht
        exact .inr ⟨_, _, .linkEnable h1, h⟩
  | linkdisable f =>
    simp only [exec, execLinkDisable]
    split
    · exact .inl ⟨_, rfl⟩
    · rcases runCommand_map s (s.admBlock .link) with h | ⟨t, ht, h⟩
      · exact .inl h
      · obtain ⟨h1, h2, rfl⟩ := admBlock_ok ht
        exact .inr ⟨_, _, .linkDisable h1 (h2 rfl), h⟩
  | satenable f =>
    simp only [exec, execSatEnable]
    split
    · exact .inl ⟨_, rfl⟩
    split
    · exact .inl ⟨_, rfl⟩
    · rcases runCommand_map s (s.admDeBlock (.sat f.sat.toNat)) with h | ⟨t, ht, h⟩
      · exact .inl h
      · obtain ⟨h1, h2, rfl⟩ := admDeBlock_ok ht
        exact .inr ⟨_, _, .satEnable _ (by simp_all) h1 (h2 (by simp)), h⟩
  | satdisable f =>
    simp only [exec, execSatDisable]
    split
    · exact .inl ⟨_, rfl⟩
    split
    · exact .inl ⟨_, rfl⟩
    · rcases runCommand_map s (s.admBlock (.sat f.sat.toNat)) with h | ⟨t, ht, h⟩
      · exact .inl h
      · obtain ⟨h1, _, rfl⟩ := admBlock_ok ht
        exact .inr ⟨_, _, .satDisable _ (by simp_all) h1, h⟩
  | selftest f =>
    simp only [exec, execSelftest]
    split
    · exact .inl ⟨_, rfl⟩
    split
    · exact .inl ⟨_, rfl⟩
    · rcases runCommand_map s (s.selftestStart f.sat.toNat false) with h | ⟨t, ht, h⟩
      · exact .inl h
      · exact .inr ⟨_, _, .selftest _ _ (by simp_all) ht, h⟩
  | setlinkthres f =>
    simp only [exec, execSetLinkThres]
    split
    · exact .inl ⟨_, rfl⟩
    split
    · exact .inl ⟨_, rfl⟩
    · refine .inr ⟨_, _, .linkThres _ _ ?_, rfl⟩
      simp_all [thresholdsOk]
  | setsatthres f =>
    simp only [exec, execSetSatThres]
    split
    · exact .inl ⟨_, rfl⟩
    split
    · exact .inl ⟨_, rfl⟩
    split
    · exact .inl ⟨_, rfl⟩
    · refine .inr ⟨_, _, .satThres _ _ _ ?_ ?_, rfl⟩
      · simp_all
      · simp_all [thresholdsOk]
  | rdlinkcnt f =>
    simp only [exec, execRdLinkCnt]
    split
    · exact .inl ⟨_, rfl⟩
    split
    · exact .inl ⟨_, rfl⟩
    · refine .inr ⟨_, _, ?_, rfl⟩
      unfold State.clearLinkCounter
      split
      · split
        · exact .linkCounters s.link.cum _ _
        · exact .linkCounters _ s.link.sec _
      · exact .same _
  | rdsatcnt f =>
    simp only [exec, execRdSatCnt]
    split
    · exact .inl ⟨_, rfl⟩
    split
    · exact .inl ⟨_, rfl⟩
    split
    · exact .inl ⟨_, rfl⟩
    · refine .inr ⟨_, _, ?_, rfl⟩
      split
      · refine .satCounters _ _ _ ?_ fun x => ?_
        · simp_all
        unfold Sat.clearCounter
        split <;> rfl
      · exact .same _
  | rdsatstate f =>
    simp only [exec, execRdSatState]
    split
    · exact .inl ⟨_, rfl⟩
    split
    · exact .inl ⟨_, rfl⟩
    · exact .inr ⟨_, _, .same _, rfl⟩
  | consumestatus f =>
    simp only [exec, execConsumeStatus]
    split
    · exact .inl ⟨_, rfl⟩
    split
    · exact .inl ⟨_, rfl⟩
    · refine .inr ⟨_, _, .consume _ _ ?_, rfl⟩
      simp_all
  | illegal0f f => exact .inl ⟨_, rfl⟩
  | illegal1x lo f => exact .inl ⟨_, rfl⟩
  | illegal2x lo f => exact .inl ⟨_, rfl⟩
  | illegal4x lo f => exact .inl ⟨_, rfl⟩
  | illegal8x lo f => exact .inl ⟨_, rfl⟩

end Sys2Proof.Machine
end

