-- ==== Sys2Proof/Laws/Counters.lean ====
section
/-! SUPPORT. Counters and per-test values: what setting or counting one kind leaves of every kind. -/

namespace Sys2Proof.Machine

theorem satInc_eq (v : BitVec 32) : satInc v = onceMore v := by
  unfold satInc onceMore
  split
  · rename_i h
    subst h
    rfl
  · rename_i h
    have hlt : v.toNat ≠ 0xFFFFFFFF := fun e => h (BitVec.eq_of_toNat_eq e)
    have hv := v.isLt
    apply BitVec.eq_of_toNat_eq
    rw [Nat.min_eq_left (by omega), BitVec.toNat_add, BitVec.toNat_ofNat]
    rfl

theorem LinkCounters.get_set (c : LinkCounters) (k j : LinkKind) (v : BitVec 32) :
    (c.set k v).get j = if j = k then v else c.get j := by
  cases k <;> cases j <;> rfl

theorem SatCounters.get_set (c : SatCounters) (k j : SatKind) (v : BitVec 32) :
    (c.set k v).get j = if j = k then v else c.get j := by
  cases k <;> cases j <;> rfl

theorem TestCounters.get_set (c : TestCounters) (k j : TestCounterKind) (v : BitVec 32) :
    (c.set k v).get j = if j = k then v else c.get j := by
  cases k <;> cases j <;> rfl

theorem LinkCounters.get_inc (c : LinkCounters) (k j : LinkKind) :
    (c.inc k).get j = if j = k then onceMore (c.get j) else c.get j := by
  rw [LinkCounters.inc, LinkCounters.get_set, satInc_eq]
  split
  · rename_i h
    rw [h]
  · rfl

theorem SatCounters.get_inc (c : SatCounters) (k j : SatKind) :
    (c.inc k).get j = if j = k then onceMore (c.get j) else c.get j := by
  rw [SatCounters.inc, SatCounters.get_set, satInc_eq]
  split
  · rename_i h
    rw [h]
  · rfl

theorem TestCounters.get_inc (c : TestCounters) (k j : TestCounterKind) :
    (c.inc k).get j = if j = k then onceMore (c.get j) else c.get j := by
  rw [TestCounters.inc, TestCounters.get_set, satInc_eq]
  split
  · rename_i h
    rw [h]
  · rfl

theorem PerTest.get_set {α : Type} (x : PerTest α) (k j : TestKind) (v : α) :
    (x.set k v).get j = if j = k then v else x.get j := by
  cases k <;> cases j <;> rfl

theorem PerTest.get_map {α β : Type} (g : α → β) (x : PerTest α) (k : TestKind) : (x.map g).get k = g (x.get k) := by
  cases k <;> rfl

@[simp] theorem LinkCounters.get_zero (k : LinkKind) : LinkCounters.zero.get k = 0 := by cases k <;> rfl
@[simp] theorem SatCounters.get_zero (k : SatKind) : SatCounters.zero.get k = 0 := by cases k <;> rfl
@[simp] theorem TestCounters.get_zero (k : TestCounterKind) : TestCounters.zero.get k = 0 := by cases k <;> rfl

/-- A mode is ACTIVE after it is resolved exactly if its test is requested. -/
theorem TestMode.resolve_active (n : Nat) (req : Bool) (m : TestMode) :
    m.resolve n req = .active ↔ req = true := by
  cases req <;> cases m <;> simp [TestMode.resolve]

end Sys2Proof.Machine
end

