-- ==== Sys2Proof/Laws/PerInstr.lean ====
section
/-! SUPPORT. The per-instruction family `EncodeInRow`: the word of a command lies in its row of spec/opcode_table.json
exactly if no field that its opcode leaves unused is set. -/

namespace Sys2Proof.Laws.EncodeInRow

open Sys2Proof Sys2Proof.Machine

/-- A row of spec/opcode_table.json: the words `w` with `w &&& mask = fixed`. -/
structure Row where
  mask : Word
  fixed : Word
deriving DecidableEq, Repr

/-- The row of a command (spec/opcode_table.json; spec/30_encoding.md R92, spec/46_host_commands.md R267). -/
def row : Instr → Row
  | .nop _ => ⟨0xFFFFFFFF#32, 0x00000000#32⟩
  | .setactval _ => ⟨0xFFF000FF#32, 0x00000001#32⟩
  | .setactmode _ => ⟨0xFFF000FF#32, 0x00000002#32⟩
  | .setsaten _ => ⟨0xFFFF00FF#32, 0x00000003#32⟩
  | .linkenable _ => ⟨0xFFFFFFFF#32, 0x00000004#32⟩
  | .linkdisable _ => ⟨0xFFFFFFFF#32, 0x00000005#32⟩
  | .satenable _ => ⟨0xFFFF00FF#32, 0x00000006#32⟩
  | .satdisable _ => ⟨0xFFFF00FF#32, 0x00000007#32⟩
  | .selftest _ => ⟨0xFFFF00FF#32, 0x00000008#32⟩
  | .setlinkthres _ => ⟨0xFFFFFFFF#32, 0x00000009#32⟩
  | .setsatthres _ => ⟨0xFFFF00FF#32, 0x0000000A#32⟩
  | .rdlinkcnt _ => ⟨0xFC0FFFFF#32, 0x0000000B#32⟩
  | .rdsatcnt _ => ⟨0xFC0F00FF#32, 0x0000000C#32⟩
  | .rdsatstate _ => ⟨0xFFFF00FF#32, 0x0000000D#32⟩
  | .consumestatus _ => ⟨0xFFFF00FF#32, 0x0000000E#32⟩
  | .illegal0f _ => ⟨0x000000FF#32, 0x0000000F#32⟩
  | .illegal1x _ _ => ⟨0x000000F0#32, 0x00000010#32⟩
  | .illegal2x _ _ => ⟨0x000000E0#32, 0x00000020#32⟩
  | .illegal4x _ _ => ⟨0x000000C0#32, 0x00000040#32⟩
  | .illegal8x _ _ => ⟨0x00000080#32, 0x00000080#32⟩

/-- The word of `i` is in the row of `i` exactly if no field that the opcode leaves unused is set
(spec/30_encoding.md R92, R93). -/
def Statement (i : Instr) : Prop :=
  encode i &&& (row i).mask = (row i).fixed ↔ ∀ u, usedFields i = some u → i.fields.unusedZero u = true

/-- Two words made of parts of the same widths are equal exactly if their parts are. -/
theorem append_eq_append {m n : Nat} (a c : BitVec m) (b d : BitVec n) : a ++ b = c ++ d ↔ a = c ∧ b = d := by
  constructor
  · intro h
    constructor
    · have := congrArg (BitVec.extractLsb' n m) h
      simpa [BitVec.extractLsb'_append_eq_left] using this
    · have := congrArg (BitVec.extractLsb' 0 n) h
      simpa [BitVec.extractLsb'_append_eq_right] using this
  · rintro ⟨rfl, rfl⟩
    rfl

/-- A mask over the fields of a CMD word, which covers the whole of each field the opcode leaves unused. -/
def maskOf (u : UsedFields) (opc : BitVec 8) : Word :=
  let part (used : Bool) (n : Nat) : BitVec n := if used then 0 else BitVec.allOnes n
  BitVec.allOnes 6 ++ part u.kindSelRst 1 ++ part u.kindSelRst 1 ++ part u.kindSelRst 4 ++ part u.ch 4 ++ part u.sat 8
    ++ opc

theorem masked_iff (opc m r : BitVec 8) (f : CmdFields) (u : UsedFields) (h : opc &&& m = r) :
    cmdWord opc f &&& maskOf u m = r.setWidth 32 ↔ f.unusedZero u = true := by
  have hr : r.setWidth 32 = 0#6 ++ 0#1 ++ 0#1 ++ 0#4 ++ 0#4 ++ 0#8 ++ r := by
    have h0 : (0#6 ++ 0#1 ++ 0#1 ++ 0#4 ++ 0#4 ++ 0#8 ++ r : BitVec 32) = 0#24 ++ r := rfl
    rw [h0]
    exact (BitVec.setWidth_eq_append (by omega)).trans rfl
  rw [hr]
  show ((f.rsv ++ BitVec.ofBool f.rst ++ BitVec.ofBool f.sel ++ f.kind ++ f.ch ++ f.sat ++ opc)
      &&& (BitVec.allOnes 6 ++ (if u.kindSelRst then 0 else BitVec.allOnes 1)
        ++ (if u.kindSelRst then 0 else BitVec.allOnes 1) ++ (if u.kindSelRst then 0 else BitVec.allOnes 4)
        ++ (if u.ch then 0 else BitVec.allOnes 4) ++ (if u.sat then 0 else BitVec.allOnes 8) ++ m)
      : BitVec (6 + 1 + 1 + 4 + 4 + 8 + 8)) = 0#6 ++ 0#1 ++ 0#1 ++ 0#4 ++ 0#4 ++ 0#8 ++ r ↔ _
  simp only [BitVec.and_append, append_eq_append, h, CmdFields.unusedZero]
  obtain ⟨us, uc, uk⟩ := u
  obtain ⟨sat, ch, kind, sel, rst, rsv⟩ := f
  have h6 : ∀ x : BitVec 6, x &&& 63#6 = x := by decide
  have h4 : ∀ x : BitVec 4, x &&& 15#4 = x := by decide
  have h8 : ∀ x : BitVec 8, x &&& 255#8 = x := by decide
  cases us <;> cases uc <;> cases uk <;> cases sel <;> cases rst <;> simp [h6, h4, h8] <;> tauto

theorem legal_in_row (i : Instr) (u : UsedFields) (h : usedFields i = some u)
    (hm : (row i).mask = maskOf u 0xFF) (hf : (row i).fixed = i.opcode.setWidth 32) : Statement i := by
  rw [Statement, hm, hf, h]
  simpa [encode] using masked_iff i.opcode 0xFF i.opcode i.fields u BitVec.and_allOnes

theorem nop (f : CmdFields) : Statement (.nop f) := legal_in_row _ _ rfl rfl rfl
theorem setactval (f : CmdFields) : Statement (.setactval f) := legal_in_row _ _ rfl rfl rfl
theorem setactmode (f : CmdFields) : Statement (.setactmode f) := legal_in_row _ _ rfl rfl rfl
theorem setsaten (f : CmdFields) : Statement (.setsaten f) := legal_in_row _ _ rfl rfl rfl
theorem linkenable (f : CmdFields) : Statement (.linkenable f) := legal_in_row _ _ rfl rfl rfl
theorem linkdisable (f : CmdFields) : Statement (.linkdisable f) := legal_in_row _ _ rfl rfl rfl
theorem satenable (f : CmdFields) : Statement (.satenable f) := legal_in_row _ _ rfl rfl rfl
theorem satdisable (f : CmdFields) : Statement (.satdisable f) := legal_in_row _ _ rfl rfl rfl
theorem selftest (f : CmdFields) : Statement (.selftest f) := legal_in_row _ _ rfl rfl rfl
theorem setlinkthres (f : CmdFields) : Statement (.setlinkthres f) := legal_in_row _ _ rfl rfl rfl
theorem setsatthres (f : CmdFields) : Statement (.setsatthres f) := legal_in_row _ _ rfl rfl rfl
theorem rdlinkcnt (f : CmdFields) : Statement (.rdlinkcnt f) := legal_in_row _ _ rfl rfl rfl
theorem rdsatcnt (f : CmdFields) : Statement (.rdsatcnt f) := legal_in_row _ _ rfl rfl rfl
theorem rdsatstate (f : CmdFields) : Statement (.rdsatstate f) := legal_in_row _ _ rfl rfl rfl
theorem consumestatus (f : CmdFields) : Statement (.consumestatus f) := legal_in_row _ _ rfl rfl rfl

theorem illegal_in_row (i : Instr) (h : usedFields i = none) (m : BitVec 8)
    (hm : (row i).mask = m.setWidth 32) (hf : (row i).fixed = (i.opcode &&& m).setWidth 32) : Statement i := by
  have hx : encode i &&& (row i).mask = (row i).fixed := by
    rw [hm, hf]
    have h1 : m.setWidth 32 = 0#24 ++ m := (BitVec.setWidth_eq_append (by omega)).trans rfl
    have h2 : (i.opcode &&& m).setWidth 32 = 0#24 ++ (i.opcode &&& m) :=
      (BitVec.setWidth_eq_append (by omega)).trans rfl
    rw [h1, h2]
    show (((i.fields.rsv ++ BitVec.ofBool i.fields.rst ++ BitVec.ofBool i.fields.sel ++ i.fields.kind ++ i.fields.ch
      ++ i.fields.sat) ++ i.opcode) &&& (0#24 ++ m) : BitVec (24 + 8)) = 0#24 ++ (i.opcode &&& m)
    rw [BitVec.and_append, append_eq_append]
    exact ⟨BitVec.and_zero, rfl⟩
  simp [Statement, hx, h]

theorem illegal0f (f : CmdFields) : Statement (.illegal0f f) :=
  illegal_in_row _ rfl 0xFF rfl (by show 0x0000000F#32 = (0x0F#8 &&& 0xFF).setWidth 32; decide)
theorem illegal1x (lo : BitVec 4) (f : CmdFields) : Statement (.illegal1x lo f) :=
  illegal_in_row _ rfl 0xF0 rfl
    (by show 0x00000010#32 = ((0x1#4 ++ lo : BitVec 8) &&& 0xF0#8).setWidth 32; revert lo; decide)
theorem illegal2x (lo : BitVec 5) (f : CmdFields) : Statement (.illegal2x lo f) :=
  illegal_in_row _ rfl 0xE0 rfl
    (by show 0x00000020#32 = ((0x1#3 ++ lo : BitVec 8) &&& 0xE0#8).setWidth 32; revert lo; decide)
theorem illegal4x (lo : BitVec 6) (f : CmdFields) : Statement (.illegal4x lo f) :=
  illegal_in_row _ rfl 0xC0 rfl
    (by show 0x00000040#32 = ((0x1#2 ++ lo : BitVec 8) &&& 0xC0#8).setWidth 32; revert lo; decide)
theorem illegal8x (lo : BitVec 7) (f : CmdFields) : Statement (.illegal8x lo f) :=
  illegal_in_row _ rfl 0x80 rfl
    (by show 0x00000080#32 = ((0x1#1 ++ lo : BitVec 8) &&& 0x80#8).setWidth 32; revert lo; decide)

end Sys2Proof.Laws.EncodeInRow
end

