-- ==== Sys2Proof/Laws/Walk.lean ====
section
/-! SUPPORT. Walks over the satellites: where every visit changes its own satellite and slot alone, what the walk
leaves of one satellite is what its own visit made of it, and the events come in the order of the addresses. -/

namespace Sys2Proof.Machine

/-- Satellite `a` and slot `a`, as far as there are any. -/
def State.at (s : State) (a : Nat) : Option Sat × Option Slot := (s.sats[a]?, s.slots[a]?)

/-- The queue and its overflow flag. -/
def State.queue (s : State) : List Word × Bool := (s.evq, s.evOvf)

theorem sat_of_at {s t : State} {a : Nat} (h : t.at a = s.at a) : t.sat a = s.sat a := by
  have := congrArg Prod.fst h
  simp only [State.at] at this
  simp [State.sat, this]

theorem slot_of_at {s t : State} {a : Nat} (h : t.at a = s.at a) : t.slot a = s.slot a := by
  have := congrArg Prod.snd h
  simp only [State.at] at this
  simp [State.slot, this]

theorem satPresent_of_at {s t : State} {a : Nat} (hc : t.cfg = s.cfg) (h : t.at a = s.at a) :
    t.satPresent a = s.satPresent a := by
  simp [State.satPresent, hc, sat_of_at h]

/-- An operation on satellite `a` that leaves every other satellite and slot, and the parameters, alone. -/
structure Local (a : Nat) (s t : State) : Prop where
  cfg : t.cfg = s.cfg
  other : ∀ j, j ≠ a → t.at j = s.at j

theorem Local.trans {a : Nat} {s t u : State} (h : Local a s t) (h' : Local a t u) : Local a s u :=
  ⟨h'.cfg.trans h.cfg, fun j hj => (h'.other j hj).trans (h.other j hj)⟩

theorem local_of_eq {a : Nat} {s t : State} (hc : t.cfg = s.cfg) (hs : t.sats = s.sats) (hl : t.slots = s.slots) :
    Local a s t := ⟨hc, fun j _ => by simp [State.at, hs, hl]⟩

variable (s : State)

theorem modifySat_local (a : Nat) (g : Sat → Sat) : Local a s (s.modifySat a g) :=
  ⟨by simp, fun j hj => by simp [State.at, Ne.symm hj]⟩

theorem modifySlot_local (a : Nat) (g : Slot → Slot) : Local a s (s.modifySlot a g) :=
  ⟨by simp, fun j hj => by simp [State.at, Ne.symm hj]⟩

theorem setSatOp_local (a : Nat) (op : OpState) : Local a s (s.setSatOp a op) := by
  unfold State.setSatOp
  split
  · exact modifySat_local s a _
  · exact (modifySat_local s a _).trans (modifySlot_local _ a _)

theorem emit_local (a : Nat) (e : Event) : Local a s (s.emit e) := local_of_eq (by simp) (by simp) (by simp)

theorem blockOne_local (a : Nat) (flag : OpState) : Local a s (s.blockOne (.sat a) flag) :=
  (setSatOp_local s a _).trans (emit_local _ a _)

theorem resetCounters_local (a : Nat) : Local a s (s.resetCounters (.sat a)) := modifySat_local s a _

theorem deblockSat_local (a : Nat) (flag : OpState) : Local a s (s.deblockSat a flag) := by
  unfold State.deblockSat
  simp only []
  refine Local.trans ?_ (emit_local _ a _)
  split
  · exact (setSatOp_local s a _).trans (resetCounters_local _ a)
  · exact setSatOp_local s a _

theorem writeTx_local (a : Nat) (g : Slot → Slot) : Local a s (s.writeTx a g) := modifySlot_local s a _

theorem setTxReq_local (a : Nat) (k : TestKind) (v : Bool) : Local a s (s.setTxReq a k v) := modifySlot_local s a _

/-- The walk over a list of distinct addresses: what it leaves at `a` is what it was, or what the visit of `a` made
of a state that had `a` still as at the start. `P` is any property that every visit keeps. -/
theorem foldl_visits {P : State → Prop} {g : Nat → State → State} (hl : ∀ a t, Local a t (g a t))
    (hP : ∀ a t, P t → t.satPresent a = true → P (g a t)) (l : List Nat) (hn : l.Nodup) (h0 : P s) (a : Nat) :
    let t := l.foldl (fun s a => if s.satPresent a then g a s else s) s
    t.cfg = s.cfg ∧ P t ∧
      (if a ∈ l ∧ s.satPresent a = true then ∃ u, P u ∧ u.cfg = s.cfg ∧ u.at a = s.at a ∧ t.at a = (g a u).at a
       else t.at a = s.at a) := by
  induction l generalizing s with
  | nil => simp [h0]
  | cons b l ih =>
    simp only [List.foldl_cons]
    have hb : ∀ j, j ≠ b → (if s.satPresent b then g b s else s).at j = s.at j := by
      intro j hj
      split
      · exact (hl b s).other j hj
      · rfl
    have hc : (if s.satPresent b then g b s else s).cfg = s.cfg := by
      split
      · exact (hl b s).cfg
      · rfl
    have hp : P (if s.satPresent b then g b s else s) := by
      split
      · exact hP b s h0 ‹_›
      · exact h0
    obtain ⟨h1, h2, h3⟩ := ih _ (List.nodup_cons.mp hn).2 hp
    refine ⟨h1.trans hc, h2, ?_⟩
    have hnb := (List.nodup_cons.mp hn).1
    by_cases hab : a = b
    · subst hab
      rw [if_neg (by simp [hnb])] at h3
      rw [h3]
      by_cases hpa : s.satPresent a = true
      · rw [if_pos ⟨List.mem_cons_self .., hpa⟩]
        exact ⟨s, h0, rfl, rfl, by simp [hpa]⟩
      · rw [if_neg (by simp [hpa])]
        simp [hpa]
    · rw [satPresent_of_at hc (hb a hab)] at h3
      by_cases hm : a ∈ l ∧ s.satPresent a = true
      · rw [if_pos hm] at h3
        rw [if_pos ⟨List.mem_cons_of_mem _ hm.1, hm.2⟩]
        obtain ⟨u, hu1, hu2, hu3, hu4⟩ := h3
        exact ⟨u, hu1, hu2.trans hc, hu3.trans (hb a hab), hu4⟩
      · rw [if_neg hm] at h3
        rw [if_neg (by simp only [List.mem_cons]; tauto)]
        exact h3.trans (hb a hab)

/-- The same for `forEachSat`. -/
theorem forEachSat_visits {P : State → Prop} {g : Nat → State → State} (hl : ∀ a t, Local a t (g a t))
    (hP : ∀ a t, P t → t.satPresent a = true → P (g a t)) (h0 : P s) (a : Nat) :
    if s.satPresent a = true then
      ∃ u, P u ∧ u.cfg = s.cfg ∧ u.at a = s.at a ∧ (s.forEachSat g).at a = (g a u).at a
    else (s.forEachSat g).at a = s.at a := by
  obtain ⟨_, _, h⟩ := foldl_visits s hl hP s.addresses List.nodup_range h0 a
  unfold State.forEachSat
  by_cases hp : s.satPresent a = true
  · rw [if_pos ⟨List.mem_range.mpr (present_lt hp).1, hp⟩] at h
    rw [if_pos hp]
    exact h
  · rw [if_neg (by simp [hp])] at h
    rw [if_neg hp]
    exact h

/-- `emit` reads the queue and EVQ_DEPTH alone. -/
theorem emit_queue_congr {s t : State} (hc : t.cfg = s.cfg) (hq : t.queue = s.queue) (e : Event) :
    (t.emit e).queue = (s.emit e).queue := by
  simp only [State.queue, Prod.mk.injEq] at hq
  have hf : t.evqFull = s.evqFull := by simp [State.evqFull, hc, hq.1]
  unfold State.emit
  rw [hf]
  split <;> simp [State.queue, hq.1, hq.2]

theorem emitAll_queue_congr {s t : State} (hc : t.cfg = s.cfg) (hq : t.queue = s.queue) (l : List Event) :
    (t.emitAll l).queue = (s.emitAll l).queue := by
  induction l generalizing s t with
  | nil => exact hq
  | cons e l ih => exact ih (by simp [hc]) (emit_queue_congr hc hq e)

@[simp] theorem emitAll_cfg (l : List Event) : (s.emitAll l).cfg = s.cfg := by
  unfold State.emitAll
  induction l generalizing s with
  | nil => rfl
  | cons e l ih => simp [ih]

theorem emitAll_append (l l' : List Event) : s.emitAll (l ++ l') = (s.emitAll l).emitAll l' := by
  simp [State.emitAll]

/-- The events of a walk in which every visit emits one event that its own satellite decides. -/
theorem forEachSat_queue {g : Nat → State → State} {ev : Nat → Sat → Event} (hl : ∀ a t, Local a t (g a t))
    (he : ∀ a t, (g a t).queue = (t.emit (ev a (t.sat a))).queue) :
    (s.forEachSat g).queue = (s.emitAll (s.children.map fun a => ev a (s.sat a))).queue := by
  unfold State.forEachSat State.children
  have hn : s.addresses.Nodup := List.nodup_range
  generalize s.addresses = l at hn
  induction l generalizing s with
  | nil => rfl
  | cons b l ih =>
    obtain ⟨hb, hn⟩ := List.nodup_cons.mp hn
    simp only [List.foldl_cons, List.filter_cons]
    by_cases hp : s.satPresent b = true
    · simp only [hp, if_true, List.map_cons]
      rw [ih _ hn]
      have hother : ∀ a ∈ l, (g b s).at a = s.at a := fun a ha => (hl b s).other a (fun h => hb (h ▸ ha))
      have hf : l.filter (fun a => (g b s).satPresent a) = l.filter fun a => s.satPresent a :=
        List.filter_congr fun a ha => by rw [satPresent_of_at (hl b s).cfg (hother a ha)]
      rw [hf]
      have hm : (l.filter fun a => s.satPresent a).map (fun a => ev a ((g b s).sat a))
          = (l.filter fun a => s.satPresent a).map fun a => ev a (s.sat a) :=
        List.map_congr_left fun a ha => by rw [sat_of_at (hother a (List.mem_of_mem_filter ha))]
      rw [hm]
      exact emitAll_queue_congr (by simp [(hl b s).cfg]) (he b s) _
    · simp only [Bool.not_eq_true] at hp
      simp only [hp]
      exact ih s hn

end Sys2Proof.Machine
end

