-- ==== Sys2Proof/Laws/StateMachine.lean ====
section
/-! SUPPORT. What blocking and deblocking one satellite does to that satellite, its slot and the queue
(spec/44_state_machine.md R210, R212), and what the self-test start does (spec/45_selftest.md R230). -/

namespace Sys2Proof.Machine

variable (s : State)

/-- A satellite that is present is in the list; of a state of sound shape its slot is too. -/
theorem present_slot_lt {s : State} {a : Nat} (h : s.Shape) (hp : s.satPresent a = true) : a < s.slots.length := by
  have := (present_lt hp).1
  rw [h.slots, Config.Params.nSlot]
  omega

theorem setSatOp_sat (a : Nat) (op : OpState) (h : a < s.sats.length) :
    (s.setSatOp a op).sat a = { s.sat a with op := op } := by
  have : (s.setSatOp a op).sats = (s.modifySat a fun x => { x with op := op }).sats := by simp
  rw [sat_congr this, sat_modifySat]
  simp [h]

theorem setSatOp_slot (a : Nat) (op : OpState) (h : a < s.slots.length) :
    (s.setSatOp a op).slot a =
      { s.slot a with txDirty := (s.slot a).txDirty || decide (op ≠ (s.sat a).op) } := by
  unfold State.setSatOp
  by_cases he : (s.sat a).op = op
  · subst he
    rw [if_pos rfl, slot_congr (modifySat_slots s a _)]
    simp
  · rw [if_neg he, slot_modifySlot, slot_congr (modifySat_slots s a _)]
    simp [h, Ne.symm he]

theorem blockOne_sat (a : Nat) (flag : OpState) (h : a < s.sats.length) :
    (s.blockOne (.sat a) flag).sat a = { s.sat a with op := (s.sat a).op ||| flag } := by
  unfold State.blockOne
  rw [sat_congr (emit_sats _ _)]
  exact setSatOp_sat s a _ h

theorem blockOne_slot (a : Nat) (flag : OpState) (h : a < s.slots.length) :
    (s.blockOne (.sat a) flag).slot a =
      { s.slot a with
        txDirty := (s.slot a).txDirty || decide ((s.sat a).op ||| flag ≠ (s.sat a).op) } := by
  unfold State.blockOne
  rw [slot_congr (emit_slots _ _)]
  exact setSatOp_slot s a _ h

theorem blockOne_queue (e : Entity) (flag : OpState) :
    (s.blockOne e flag).queue = (s.emit (.opState e (s.op e ||| flag))).queue :=
  emit_queue_congr (by simp) (by simp [State.queue]) _

theorem deblockSat_sat (a : Nat) (flag : OpState) (h : a < s.sats.length) :
    (s.deblockSat a flag).sat a =
      { s.sat a with
        op := (s.sat a).op &&& ~~~flag
        cum := if (s.sat a).op ≠ 0 ∧ (s.sat a).op &&& ~~~flag = 0 then SatCounters.zero else (s.sat a).cum
        sec := if (s.sat a).op ≠ 0 ∧ (s.sat a).op &&& ~~~flag = 0 then SatCounters.zero else (s.sat a).sec
        test := if (s.sat a).op ≠ 0 ∧ (s.sat a).op &&& ~~~flag = 0 then TestCounters.zero
                else (s.sat a).test } := by
  unfold State.deblockSat
  simp only []
  rw [sat_congr (emit_sats _ _)]
  split
  · unfold State.resetCounters
    rw [sat_modifySat, setSatOp_sat s a _ h]
    simp [h]
  · exact setSatOp_sat s a _ h

theorem deblockSat_slot (a : Nat) (flag : OpState) (h : a < s.slots.length) :
    (s.deblockSat a flag).slot a =
      { s.slot a with
        txDirty := (s.slot a).txDirty || decide ((s.sat a).op &&& ~~~flag ≠ (s.sat a).op) } := by
  unfold State.deblockSat
  simp only []
  rw [slot_congr (emit_slots _ _)]
  split
  · unfold State.resetCounters
    rw [slot_congr (modifySat_slots _ a _)]
    exact setSatOp_slot s a _ h
  · exact setSatOp_slot s a _ h

theorem deblockSat_queue (a : Nat) (flag : OpState) :
    (s.deblockSat a flag).queue = (s.emit (.opState (.sat a) ((s.sat a).op &&& ~~~flag))).queue := by
  unfold State.deblockSat
  simp only []
  refine emit_queue_congr ?_ ?_ _
  · split <;> simp
  · split <;> simp [State.queue]

/-- The number of satellites and slots does not change. -/
@[simp] theorem blockOne_sats_length (e : Entity) (flag : OpState) :
    (s.blockOne e flag).sats.length = s.sats.length := by
  cases e <;> simp [State.blockOne, State.setOp]

@[simp] theorem blockOne_slots_length (e : Entity) (flag : OpState) :
    (s.blockOne e flag).slots.length = s.slots.length := by
  cases e <;> simp [State.blockOne, State.setOp]

@[simp] theorem deblockSat_sats_length (a : Nat) (flag : OpState) :
    (s.deblockSat a flag).sats.length = s.sats.length := by
  unfold State.deblockSat
  simp only []
  split <;> simp [State.resetCounters]

@[simp] theorem deblockSat_slots_length (a : Nat) (flag : OpState) :
    (s.deblockSat a flag).slots.length = s.slots.length := by
  unfold State.deblockSat
  simp only []
  split <;> simp

theorem forEachSat_sats_length {g : Nat → State → State} (h : ∀ a t, (g a t).sats.length = t.sats.length) :
    (s.forEachSat g).sats.length = s.sats.length := forEachSat_keeps s (fun t => t.sats.length) h

theorem forEachSat_slots_length {g : Nat → State → State} (h : ∀ a t, (g a t).slots.length = t.slots.length) :
    (s.forEachSat g).slots.length = s.slots.length := forEachSat_keeps s (fun t => t.slots.length) h

/-- What the cascade of `opBlock` leaves of satellite `a` and slot `a`. -/
theorem blockAll_at (flag : OpState) (h : s.Shape) (a : Nat) :
    let t := s.forEachSat fun a t => t.blockOne (.sat a) flag
    t.sat a = (if s.satPresent a = true then { s.sat a with op := (s.sat a).op ||| flag } else s.sat a)
      ∧ t.slot a =
        if s.satPresent a = true then
          { s.slot a with
            txDirty := (s.slot a).txDirty || decide ((s.sat a).op ||| flag ≠ (s.sat a).op) }
        else s.slot a := by
  intro t
  have hv := forEachSat_visits s (P := fun u => u.sats.length = s.sats.length ∧ u.slots.length = s.slots.length)
    (g := fun a t => t.blockOne (.sat a) flag) (fun a t => blockOne_local t a flag)
    (fun _ _ ht _ => by simpa using ht) ⟨rfl, rfl⟩ a
  by_cases hp : s.satPresent a = true
  · rw [if_pos hp] at hv
    obtain ⟨u, ⟨hu1, hu2⟩, _, hu, ht⟩ := hv
    have h1 : a < u.sats.length := hu1 ▸ (present_lt hp).2
    have h2 : a < u.slots.length := hu2 ▸ present_slot_lt h hp
    rw [if_pos hp, if_pos hp]
    rw [sat_of_at ht, slot_of_at ht, blockOne_sat u a flag h1, blockOne_slot u a flag h2, sat_of_at hu,
      slot_of_at hu]
    exact ⟨rfl, rfl⟩
  · rw [if_neg hp] at hv
    rw [if_neg hp, if_neg hp]
    exact ⟨sat_of_at hv, slot_of_at hv⟩

/-- What the cascade of `opDeBlock` leaves of satellite `a` and slot `a`. -/
theorem deblockAll_at (flag : OpState) (h : s.Shape) (a : Nat) :
    let t := s.forEachSat fun a t => t.deblockSat a flag
    t.sat a = (if s.satPresent a = true then (s.deblockSat a flag).sat a else s.sat a)
      ∧ t.slot a = if s.satPresent a = true then (s.deblockSat a flag).slot a else s.slot a := by
  intro t
  have hv := forEachSat_visits s (P := fun u => u.sats.length = s.sats.length ∧ u.slots.length = s.slots.length)
    (g := fun a t => t.deblockSat a flag) (fun a t => deblockSat_local t a flag)
    (fun _ _ ht _ => by simpa using ht) ⟨rfl, rfl⟩ a
  by_cases hp : s.satPresent a = true
  · rw [if_pos hp] at hv
    obtain ⟨u, ⟨hu1, hu2⟩, _, hu, ht⟩ := hv
    have h1 : a < u.sats.length := hu1 ▸ (present_lt hp).2
    have h2 : a < u.slots.length := hu2 ▸ present_slot_lt h hp
    rw [if_pos hp, if_pos hp]
    rw [sat_of_at ht, slot_of_at ht, deblockSat_sat u a flag h1, deblockSat_slot u a flag h2, sat_of_at hu,
      slot_of_at hu, deblockSat_sat s a flag (present_lt hp).2, deblockSat_slot s a flag (present_slot_lt h hp)]
    exact ⟨rfl, rfl⟩
  · rw [if_neg hp] at hv
    rw [if_neg hp, if_neg hp]
    exact ⟨sat_of_at hv, slot_of_at hv⟩

end Sys2Proof.Machine
end

