-- ==== Sys2Proof/Laws/Step.lean ====
section
/-! SUPPORT. The step by the input it takes, and what taking an input leaves unchanged. -/

namespace Sys2Proof.Machine

variable (s : State)

/-! ## Taking an input -/

@[simp] theorem inputTaken_cfg : s.inputTaken.cfg = s.cfg := by unfold State.inputTaken; split <;> rfl
@[simp] theorem inputTaken_scanPhase : s.inputTaken.scanPhase = s.scanPhase := by
  unfold State.inputTaken; split <;> rfl
@[simp] theorem inputTaken_conf : s.inputTaken.conf = s.conf := by unfold State.inputTaken; split <;> rfl
@[simp] theorem inputTaken_link : s.inputTaken.link = s.link := by unfold State.inputTaken; split <;> rfl
@[simp] theorem inputTaken_slots : s.inputTaken.slots = s.slots := by unfold State.inputTaken; split <;> rfl
@[simp] theorem inputTaken_sats : s.inputTaken.sats = s.sats := by unfold State.inputTaken; split <;> rfl
@[simp] theorem inputTaken_disc : s.inputTaken.disc = s.disc := by unfold State.inputTaken; split <;> rfl
@[simp] theorem inputTaken_reest : s.inputTaken.reest = s.reest := by unfold State.inputTaken; split <;> rfl
@[simp] theorem inputTaken_cyc : s.inputTaken.cyc = s.cyc := by unfold State.inputTaken; split <;> rfl
@[simp] theorem inputTaken_host : s.inputTaken.host = s.host := by unfold State.inputTaken; split <;> rfl
@[simp] theorem inputTaken_evq : s.inputTaken.evq = s.evq := by unfold State.inputTaken; split <;> rfl
@[simp] theorem inputTaken_evOvf : s.inputTaken.evOvf = s.evOvf := by unfold State.inputTaken; split <;> rfl
@[simp] theorem inputTaken_time : s.inputTaken.time = s.time := by unfold State.inputTaken; split <;> rfl
@[simp] theorem inputTaken_line : s.inputTaken.line = s.line := by unfold State.inputTaken; split <;> rfl
@[simp] theorem inputTaken_readValue : s.inputTaken.readValue = s.readValue := by
  unfold State.inputTaken; split <;> rfl
@[simp] theorem inputTaken_clock : s.inputTaken.env.clock = s.env.clock := by
  unfold State.inputTaken; split <;> rfl
@[simp] theorem inputTaken_slot (i : Nat) : s.inputTaken.slot i = s.slot i := by simp [State.slot]
@[simp] theorem inputTaken_sat (a : Nat) : s.inputTaken.sat a = s.sat a := by simp [State.sat]
@[simp] theorem inputTaken_satPresent (a : Nat) : s.inputTaken.satPresent a = s.satPresent a := by
  simp [State.satPresent]
@[simp] theorem inputTaken_activeSlots : s.inputTaken.activeSlots = s.activeSlots := by simp [State.activeSlots]

/-! ## The step -/

theorem step_scan {s : State} (h : s.input = .scan) : step s = .next s.inputTaken.scanStep := by
  simp [step, h, runInput]

theorem step_reset {s : State} (h : s.input = .reset) : step s = .next s.inputTaken.resetInput := by
  simp [step, h, runInput]

theorem step_access {s : State} {a : Access} (h : s.input = .host a) : step s = hostAccess a s.inputTaken := by
  simp [step, h, runInput]

/-- What a step that answers a next state was: a micro-step, a reset, a register read, a register write, or a
command. -/
theorem step_cases {s t : State} (h : step s = .next t) :
    (s.input = .scan ∧ t = s.inputTaken.scanStep)
      ∨ (s.input = .reset ∧ t = s.inputTaken.resetInput)
      ∨ (∃ addr, t = s.inputTaken.readRegister addr)
      ∨ (∃ addr v, t = s.inputTaken.writeRegister addr v)
      ∨ ∃ i, exec i s.inputTaken = .next t := by
  cases hi : s.input with
  | scan => rw [step_scan hi] at h; exact .inl ⟨rfl, by simpa using h.symm⟩
  | reset => rw [step_reset hi] at h; exact .inr (.inl ⟨rfl, by simpa using h.symm⟩)
  | host a =>
    rw [step_access hi] at h
    cases a with
    | read addr width =>
      simp only [hostAccess] at h
      split at h
      · exact .inr (.inr (.inl ⟨addr, by simpa using h.symm⟩))
      · cases h
    | write addr width v =>
      simp only [hostAccess] at h
      split at h
      · cases h
      split at h
      · exact .inr (.inr (.inr (.inr ⟨_, h⟩)))
      · exact .inr (.inr (.inr (.inl ⟨addr, v, by simpa using h.symm⟩)))

end Sys2Proof.Machine
end

