-- ==== Sys2Proof/Machine/Assembler.lean ====
section
/-! DEFINITION. The written commands of spec/30_encoding.md R107 and the register writes they stand for (R108). A
written command is its operands, not its characters (log 23). -/

namespace Sys2Proof.Machine

/-- The names of the KIND codes (spec/30_encoding.md R95). -/
inductive KindName where
  | sym | size | rxcrc | remcrc | wd | timing | tremcrc | trxcrc | twd
deriving DecidableEq, Repr

/-- The KIND code of a name (spec/30_encoding.md R95). -/
def KindName.code : KindName → BitVec 4
  | .sym => 0
  | .size => 1
  | .rxcrc => 2
  | .remcrc => 3
  | .wd => 4
  | .timing => 5
  | .tremcrc => 6
  | .trxcrc => 7
  | .twd => 8

/-- A written `kind`: a name or its number (spec/30_encoding.md R107). -/
inductive KindOperand where
  | name (k : KindName)
  | number (n : BitVec 4)
deriving DecidableEq, Repr

/-- The KIND field of a written `kind`. -/
def KindOperand.code : KindOperand → BitVec 4
  | .name k => k.code
  | .number n => n

/-- A written command (spec/30_encoding.md R107). `sec` and `rst` say whether the word is present. -/
inductive AsmCommand where
  | nop
  | setactval (sat : BitVec 8) (ch : BitVec 4) (value : Word)
  | setactmode (sat : BitVec 8) (ch : BitVec 4) (mode : Word)
  | setsaten (sat : BitVec 8) (en : Word)
  | linkenable
  | linkdisable
  | satenable (sat : BitVec 8)
  | satdisable (sat : BitVec 8)
  | selftest (sat : BitVec 8)
  | setlinkthres (high low : BitVec 16)
  | setsatthres (sat : BitVec 8) (high low : BitVec 16)
  | rdlinkcnt (kind : KindOperand) (sec rst : Bool)
  | rdsatcnt (sat : BitVec 8) (kind : KindOperand) (sec rst : Bool)
  | rdsatstate (sat : BitVec 8)
  | consumestatus (sat : BitVec 8)
deriving DecidableEq, Repr

/-- The fields of a command whose word holds SAT and CH alone; an absent operand is 0 (spec/30_encoding.md R107). -/
def addressFields (sat : BitVec 8) (ch : BitVec 4) : CmdFields :=
  { sat := sat, ch := ch, kind := 0, sel := false, rst := false, rsv := 0 }

/-- The command a written command stands for (spec/30_encoding.md R107). -/
def AsmCommand.instr : AsmCommand → Instr
  | .nop => .nop (addressFields 0 0)
  | .setactval sat ch _ => .setactval (addressFields sat ch)
  | .setactmode sat ch _ => .setactmode (addressFields sat ch)
  | .setsaten sat _ => .setsaten (addressFields sat 0)
  | .linkenable => .linkenable (addressFields 0 0)
  | .linkdisable => .linkdisable (addressFields 0 0)
  | .satenable sat => .satenable (addressFields sat 0)
  | .satdisable sat => .satdisable (addressFields sat 0)
  | .selftest sat => .selftest (addressFields sat 0)
  | .setlinkthres _ _ => .setlinkthres (addressFields 0 0)
  | .setsatthres sat _ _ => .setsatthres (addressFields sat 0)
  | .rdlinkcnt kind sec rst => .rdlinkcnt { addressFields 0 0 with kind := kind.code, sel := sec, rst := rst }
  | .rdsatcnt sat kind sec rst => .rdsatcnt { addressFields sat 0 with kind := kind.code, sel := sec, rst := rst }
  | .rdsatstate sat => .rdsatstate (addressFields sat 0)
  | .consumestatus sat => .consumestatus (addressFields sat 0)

/-- The ARG operand of a written command, `none` where it has none (spec/30_encoding.md R107). -/
def AsmCommand.arg : AsmCommand → Option Word
  | .setactval _ _ value => some value
  | .setactmode _ _ mode => some mode
  | .setsaten _ en => some en
  | .setlinkthres high low => some (high ++ low)
  | .setsatthres _ high low => some (high ++ low)
  | _ => none

/-- The register writes a written command expands to: ARG, where it has one, and then CMD
(spec/30_encoding.md R108). -/
def AsmCommand.expand (c : AsmCommand) : List Access :=
  (match c.arg with
   | some v => [.write 0x04 4 v]
   | none => []) ++ [.write 0x00 4 (encode c.instr)]

end Sys2Proof.Machine
end

