-- ==== Sys2Proof/Tests/Slice0.lean ====
section
/-! SUPPORT. Tests: ill-formed terms, words written out from the encoding tables, one step at a time, and for every
statement with hypotheses a state that meets them. Expected values come from spec/, named with each test. -/

namespace Sys2Proof.Tests

open Sys2Proof Sys2Proof.Machine Sys2Proof.Config

/-! ## Well-formedness -/

/-- The fields of a word whose reserved bits are 0. -/
def fld (sat : BitVec 8) (ch : BitVec 4) (kind : BitVec 4 := 0) (sel rst : Bool := false) : CmdFields :=
  ⟨sat, ch, kind, sel, rst, 0⟩

theorem test_reserved_bit_refused : (Instr.nop ⟨0, 0, 0, false, false, 1⟩).wellFormed = false := by decide
theorem test_unused_sat_refused : (Instr.linkenable (fld 1 0)).wellFormed = false := by decide
theorem test_unused_ch_refused : (Instr.setsaten (fld 1 1)).wellFormed = false := by decide
theorem test_unused_kind_refused : (Instr.setactval (fld 1 1 1)).wellFormed = false := by decide
theorem test_unused_sel_refused : (Instr.rdsatstate (fld 1 0 0 true)).wellFormed = false := by decide
theorem test_unused_rst_refused : (Instr.selftest (fld 1 0 0 false true)).wellFormed = false := by decide
theorem test_channel_refused : (Instr.setactmode (fld 1 4)).wellFormed = false := by decide
theorem test_link_kind_refused : (Instr.rdlinkcnt (fld 0 0 6)).wellFormed = false := by decide
theorem test_sat_kind_refused : (Instr.rdsatcnt (fld 0 0 5)).wellFormed = false := by decide
theorem test_sat_kind_sel_refused : (Instr.rdsatcnt (fld 0 0 8 true)).wellFormed = false := by decide
theorem test_wellFormed_accepted :
    (Instr.rdsatcnt (fld 255 0 8 false true)).wellFormed = true
      ∧ (Instr.rdlinkcnt (fld 0 0 5 true)).wellFormed = true
      ∧ (Instr.setactval (fld 255 3)).wellFormed = true := by decide

/-- spec/00_scope.md R7: overlapping pulse bands, low ≥ high thresholds and a layout that hits byte 7 are illegal. -/
theorem test_illegal_configurations :
    Params.legal { exampleParams with b0Max := 6 } = false
      ∧ Params.legal { exampleParams with errThresLow0 := 20 } = false
      ∧ Params.legal { exampleParams with maxSats := 255 } = false
      ∧ Params.legal { exampleParams with frameLayout := (List.range 56).map (· + 7) } = false := by decide

/-! ## Decoding: one word of every row, its bits written out from spec/30_encoding.md R91 and R92 -/

theorem test_decode_nop : decodeWord 0b000000_0_0_0000_0000_00000000_00000000 = .nop (fld 0 0) := by decide
theorem test_decode_setactval :
    decodeWord 0b000000_0_0_0000_0011_00000010_00000001 = .setactval (fld 2 3) := by decide
theorem test_decode_setactmode :
    decodeWord 0b000000_0_0_0000_0001_11111110_00000010 = .setactmode (fld 254 1) := by decide
theorem test_decode_setsaten :
    decodeWord 0b000000_0_0_0000_0000_10000000_00000011 = .setsaten (fld 128 0) := by decide
theorem test_decode_linkenable :
    decodeWord 0b000000_0_0_0000_0000_00000000_00000100 = .linkenable (fld 0 0) := by decide
theorem test_decode_linkdisable :
    decodeWord 0b000000_0_0_0000_0000_00000000_00000101 = .linkdisable (fld 0 0) := by decide
theorem test_decode_satenable :
    decodeWord 0b000000_0_0_0000_0000_00000001_00000110 = .satenable (fld 1 0) := by decide
theorem test_decode_satdisable :
    decodeWord 0b000000_0_0_0000_0000_00000011_00000111 = .satdisable (fld 3 0) := by decide
theorem test_decode_selftest :
    decodeWord 0b000000_0_0_0000_0000_00000011_00001000 = .selftest (fld 3 0) := by decide
theorem test_decode_setlinkthres :
    decodeWord 0b000000_0_0_0000_0000_00000000_00001001 = .setlinkthres (fld 0 0) := by decide
theorem test_decode_setsatthres :
    decodeWord 0b000000_0_0_0000_0000_01010101_00001010 = .setsatthres (fld 0x55 0) := by decide
theorem test_decode_rdlinkcnt :
    decodeWord 0b000000_1_0_0101_0000_00000000_00001011 = .rdlinkcnt (fld 0 0 5 false true) := by decide
theorem test_decode_rdsatcnt :
    decodeWord 0b000000_0_1_0100_0000_00000111_00001100 = .rdsatcnt (fld 7 0 4 true false) := by decide
theorem test_decode_rdsatstate :
    decodeWord 0b000000_0_0_0000_0000_00000010_00001101 = .rdsatstate (fld 2 0) := by decide
theorem test_decode_consumestatus :
    decodeWord 0b000000_0_0_0000_0000_00000010_00001110 = .consumestatus (fld 2 0) := by decide
theorem test_decode_illegal0f :
    decodeWord 0b100001_0_0_0000_0000_00000000_00001111 = .illegal0f ⟨0, 0, 0, false, false, 0b100001⟩ := by decide
theorem test_decode_illegal1x :
    decodeWord 0b000000_0_0_0000_0000_00000000_00010000 = .illegal1x 0 (fld 0 0) := by decide
theorem test_decode_illegal2x :
    decodeWord 0b000000_0_0_0000_0000_00000000_00111110 = .illegal2x 0b11110 (fld 0 0) := by decide
theorem test_decode_illegal4x :
    decodeWord 0b000000_0_0_0000_0000_00000000_01000001 = .illegal4x 1 (fld 0 0) := by decide
theorem test_decode_illegal8x :
    decodeWord 0b000000_0_0_0000_0000_00000000_10000010 = .illegal8x 2 (fld 0 0) := by decide
theorem test_decode_rejects_three_bytes : decodeBytes [0x01, 0x02, 0x03] = .error .notFourBytes := by decide
theorem test_decode_lane_zero_first : decodeBytes [0x01, 0x02, 0x03, 0x00] = .ok (.setactval (fld 2 3)) := by decide
theorem test_decodeTableWord_wide : decodeTableWord 40 (2 ^ 32) = none := by decide

/-- spec/30_encoding.md R107, R108 with the words of R253 and R264. -/
theorem test_assembler :
    (AsmCommand.setactval 2 3 0x7F).expand = [.write 0x04 4 0x7F, .write 0x00 4 0x00030201]
      ∧ (AsmCommand.setlinkthres 20 2).expand = [.write 0x04 4 0x00140002, .write 0x00 4 0x00000009]
      ∧ (AsmCommand.rdsatcnt 3 (.name .tremcrc) false false).expand = [.write 0x00 4 0x0060030C]
      ∧ (AsmCommand.rdlinkcnt (.number 2) true true).expand = [.write 0x00 4 0x0320000B] := by decide

/-! ## States -/

/-- A machine right after reset with the example configuration. -/
def fresh : State := State.resetWith exampleParams 100

/-- The Link and its four satellites enabled and WORKING. -/
def atWork : State :=
  { fresh with
    link := { fresh.link with adm := .enable, op := 0, noOfSats := 4 }
    sats := fresh.sats.map fun x => { x with present := true, adm := .enable, op := 0 } }

/-- Right after a discovery that found four satellites while the Link had failed. -/
def blocked : State :=
  { fresh with
    link := { fresh.link with adm := .enable, op := 0x18, noOfSats := 4 }
    sats := fresh.sats.map fun x => { x with present := true } }

/-- `s` with ARG = `x`. -/
def withArg (s : State) (x : Word) : State := { s with host := { s.host with arg := x } }

/-- The state after the command `w`. -/
def ran (s : State) (w : Word) : State :=
  match exec (decodeWord w) s with
  | .next t => t
  | _ => s

/-- `s` before the scan micro-step `p`, the CLOCK about to answer `d` milliseconds later. -/
def before (s : State) (p : ScanPhase) (d : Nat := 0) : State :=
  { s with scanPhase := p, env := { s.env with agenda := [.scan], clockIn := [d] } }

/-- The state after a step. -/
def moved (s : State) : State :=
  match step s with
  | .next t => t
  | _ => s

theorem atWork_sound : atWork.Sound := sound_of_check (by decide)
theorem fresh_sound : fresh.Sound := sound_of_check (by decide)
theorem blocked_sound : blocked.Sound := sound_of_check (by decide)

/-! ## One command each (the examples of spec/46_host_commands.md) -/

/-- R252: RESULT is written and nothing else. -/
theorem test_nop : ran { atWork with host := ⟨9, 5, 7⟩ } 0x00000000 = { atWork with host := ⟨9, 0, 0⟩ } := by decide
theorem test_nop_bad_word : (ran atWork 0x00000100).host.result = 0x06 := by decide

/-- R253: SETACTVAL 2, 3, 0x7F. -/
theorem test_setactval :
    let t := ran (withArg atWork 0x7F) 0x00030201
    t.host.result = 0x00 ∧ (t.slot 2).txActVal = #v[0, 0, 0, 0x7F] ∧ (t.slot 1).txActVal = #v[0, 0, 0, 0] := by decide
theorem test_setactval_bad_channel : (ran atWork 0x00040201).host.result = 0x06 := by decide

/-- R254: SETACTMODE 1, 0, 5. -/
theorem test_setactmode :
    let t := ran (withArg atWork 5) 0x00000102
    t.host.result = 0x00 ∧ (t.slot 1).txActMode = #v[5, 0, 0, 0] := by decide
theorem test_setactmode_bad_mode : (ran (withArg atWork 8) 0x00000102).host.result = 0x06 := by decide

/-- R255: SETSATEN 0, 1. -/
theorem test_setsaten : ((ran (withArg atWork 1) 0x00000003).slot 0).txEnableReq = true := by decide
theorem test_setsaten_marks_dirty :
    ((ran (withArg { atWork with slots := atWork.slots.map fun sl => { sl with txDirty := false } } 0)
      0x00000003).slot 0).txDirty = true := by decide

/-- R256: LINKENABLE after reset. -/
theorem test_linkenable :
    let t := ran fresh 0x00000004
    t.host.result = 0x00 ∧ t.evq = [0x2FF00001] ∧ t.register 0x10 = 0x01000001 := by decide
theorem test_linkenable_twice : (ran atWork 0x00000004).host.result = 0x01 := by decide

/-- R257: LINKDISABLE with satellite 0 ENABLE, and with every satellite DISABLE. -/
theorem test_linkdisable_refused : ran atWork 0x00000005 = { atWork with host := ⟨0, 0x02, 0⟩ } := by decide
theorem test_linkdisable :
    let t := ran blocked 0x00000005
    t.host.result = 0x00 ∧ t.link.op = 0x1A ∧ t.link.adm = .disable ∧ t.evq = [0x2FF0001A] := by decide

/-- R258: SATENABLE 0 with the Link ENABLE and WORKING. -/
theorem test_satenable :
    let s := atWork.modifySat 0 fun x => { x with adm := .disable, op := 0x02 }
    let t := ran s 0x00000006
    t.host.result = 0x00 ∧ t.evq = [0x20000000] ∧ (t.sat 0).stPhase = .srv ∧ (t.sat 0).stImplicit = true := by decide
/-- R218: the implicit self-test of a satellite that stays blocked does not start. -/
theorem test_satenable_blocked :
    let t := ran blocked 0x00000006
    t.host.result = 0x00 ∧ (t.sat 0).op = 0x04 ∧ (t.sat 0).stPhase = .idle := by decide

/-- R259: SATDISABLE 3. -/
theorem test_satdisable :
    let t := ran atWork 0x00000307
    t.host.result = 0x00 ∧ (t.sat 3).op = 0x02 ∧ t.evq = [0x20300002] := by decide
theorem test_satdisable_twice : (ran (ran atWork 0x00000307) 0x00000307).host.result = 0x01 := by decide

/-- R260: SELFTEST 3, twice. -/
theorem test_selftest : (ran atWork 0x00000308).host.result = 0x00
    ∧ ((ran atWork 0x00000308).slot 3).txReq = ⟨true, false, false⟩ := by decide
theorem test_selftest_busy : (ran (ran atWork 0x00000308) 0x00000308).host.result = 0x03 := by decide

/-- R261: SETLINKTHRES 20, 2, and an equal pair. -/
theorem test_setlinkthres : (ran (withArg atWork 0x00140002) 0x00000009).register 0x18 = 0x00140002 := by decide
theorem test_setlinkthres_equal : (ran (withArg atWork 0x00020002) 0x00000009).host.result = 0x06 := by decide

/-- R262: SETSATTHRES 3, 10, 1. -/
theorem test_setsatthres :
    let t := ran (withArg atWork 0x000A0001) 0x0000030A
    (t.sat 3).thresHigh = 10 ∧ (t.sat 3).thresLow = 1 ∧ (t.sat 2).thresHigh = 20 := by decide
theorem test_setsatthres_absent : (ran (withArg atWork 0x000A0001) 0x0000040A).host.result = 0x05 := by decide

/-- R263: RDLINKCNT RXCRC, sec, rst. -/
theorem test_rdlinkcnt :
    let s := { atWork with link := { atWork.link with cum := ⟨0, 0, 9, 0, 0, 0⟩, sec := ⟨0, 0, 7, 0, 0, 1⟩ } }
    let t := ran s 0x0320000B
    t.host.rdata = 7 ∧ t.link.sec = ⟨0, 0, 0, 0, 0, 1⟩ ∧ t.link.cum = ⟨0, 0, 9, 0, 0, 0⟩ := by decide
theorem test_rdlinkcnt_bad_kind : (ran atWork 0x0060000B).host.result = 0x06 := by decide

/-- R264: RDSATCNT 3, TREMCRC, and with its rst. -/
theorem test_rdsatcnt :
    let s := atWork.modifySat 3 fun x => { x with test := ⟨4, 5, 6⟩ }
    (ran s 0x0060030C).host.rdata = 4 ∧ ((ran s 0x0060030C).sat 3).test = ⟨4, 5, 6⟩
      ∧ ((ran s 0x0260030C).sat 3).test = ⟨0, 5, 6⟩ := by decide
theorem test_rdsatcnt_no_second_form : (ran atWork 0x0160030C).host.result = 0x06 := by decide

/-- R265: the word of its example, RDSATSTATE 0 after discovery, here with the test modes INACTIVE (log 29). -/
theorem test_rdsatstate : (ran blocked 0x0000000D).host.rdata = 0x00000106 := by decide
/-- R102 with R197 (and program P1 of spec/95_test_vectors.md at its cycle 3): the cycle in which discovery finishes
leaves SRV in DEACTIVATING(2), and RDSATSTATE 0 shows it (log 29). -/
theorem test_rdsatstate_deactivating :
    let s := blocked.modifySlot 0 fun sl => { sl with tm := { sl.tm with srv := .deactivating 2 } }
    (ran s 0x0000000D).host.rdata = 0x00002106 := by decide
theorem test_rdsatstate_absent : (ran fresh 0x0000000D).host.result = 0x05 := by decide

/-- R266: CONSUMESTATUS 0 with remoteCrcError and dirty set. -/
theorem test_consumestatus :
    let s := atWork.modifySlot 0 fun sl => { sl with status := ⟨false, true, false, false, false, true⟩ }
    let t := ran s 0x0000000E
    t.host.rdata = 0x00000022 ∧ (t.slot 0).status = ⟨false, true, false, false, false, false⟩ := by decide
theorem test_consumestatus_bad_word : (ran atWork 0x0010000E).host.result = 0x06 := by decide

/-- R267: one opcode of each row. -/
theorem test_illegal :
    ran atWork 0x0000000F = { atWork with host := ⟨0, 0x06, 0⟩ }
      ∧ ran atWork 0x0000001F = { atWork with host := ⟨0, 0x06, 0⟩ }
      ∧ ran atWork 0x00000020 = { atWork with host := ⟨0, 0x06, 0⟩ }
      ∧ ran atWork 0x0000007F = { atWork with host := ⟨0, 0x06, 0⟩ }
      ∧ ran atWork 0x000000FF = { atWork with host := ⟨0, 0x06, 0⟩ } := ⟨rfl, rfl, rfl, rfl, rfl⟩

/-! ## The machine beyond the commands -/

/-- spec/40_frame_codec.md R114: storing the CRC of 00 00 00 00 00 00 01 00. -/
theorem test_setCrc :
    setCrc .direct (frameOfBytes 0 0 0 0 0 0 1 0) false = frameOfBytes 0 0 0 0 0 0 1 5 := by decide +kernel

/-- spec/44_state_machine.md R210: opBlock(LINK, FAIL) with three satellites WORKING. -/
theorem test_opBlock :
    let s := { atWork with link := { atWork.link with noOfSats := 3 } }.modifySat 3 fun x => { x with present := false }
    let t := s.opBlock .link opFail
    t.evq = [0x20000004, 0x20100004, 0x20200004, 0x2FF00010] ∧ t.link.op = 0x10 ∧ t.reest.armed = true := by decide +kernel

/-- spec/20_memory.md R66: reading EVENT pops; R65: ARG is written. -/
theorem test_registers :
    hostAccess (.read 0x1C 4) { atWork with evq := [1, 2] } = .next { atWork with evq := [2], readValue := some 1 }
      ∧ hostAccess (.write 0x04 4 0xDEADBEEF) atWork = .next (withArg atWork 0xDEADBEEF)
      ∧ hostAccess (.read 0x04 2) atWork = .refused .accessNotAdmitted := ⟨rfl, rfl, rfl⟩

/-- spec/42_scan_engine.md R174: an overrun counts TIMING and restarts the period. -/
theorem test_overrun :
    let t := moved (before atWork .timing 5)
    t.link.sec.timing = 1 ∧ t.time.periodBase = 105 ∧ t.scanPhase = .wait := by decide

/-- spec/42_scan_engine.md R153, R155: ENCODE of a fresh slot 0 of a WORKING satellite with its enable requested. -/
theorem test_encode :
    let t := moved (before (ran (withArg atWork 1) 0x00000003) .encode)
    ((unpack defaultLayout (t.slot 0).txBytes).cmdEnable = true)
      ∧ ((unpack defaultLayout (t.slot 1).txBytes).cmdEnable = false)
      ∧ ((unpack defaultLayout (t.slot 0).txBytes).startMark = true) ∧ (t.slot 3).txDirty = false := by decide +kernel

/-- A step from reset with a command placed runs that command, whatever the configuration. -/
theorem test_step_from_reset :
    step (State.reset.withFetchWord 32 0x00000000) = .next (State.reset.ended 0x00 0)
      ∧ step (State.reset.withFetchWord 32 0x000000FF) = .next (State.reset.ended 0x06 0) := ⟨rfl, rfl⟩

/-! ## Witnesses: for every statement with hypotheses, states and operands that meet them, clause by clause -/

theorem witness_StepRunsTheDecodedCommand :
    ({ atWork with env := { atWork.env with agenda := [.host (.write 0x00 4 0x00000308)] } } : State).input
      = .host (.write 0x00 4 (encode (.selftest (fld 3 0)))) := by decide

theorem witness_IllegalOpcodesEndWithBadParameter :
    0x0F#8 ≤ (0x0000000F#32).extractLsb' 0 8 ∧ 0x0F#8 ≤ (0xFFFFFFFF#32).extractLsb' 0 8 := by decide

/-- A field unused by the opcode, and each ARG at the first value out of its range, and a command that ignores it. -/
theorem witness_UnusedBitsAreChecked :
    usedFields (.nop (fld 1 0)) = some {} ∧ (Instr.nop (fld 1 0)).fields.unusedZero {} = false
      ∧ 256 ≤ (withArg atWork 0x100).host.arg.toNat ∧ 8 ≤ (withArg atWork 8).host.arg.toNat
      ∧ 2 ≤ (withArg atWork 2).host.arg.toNat ∧ usesArg (.selftest (fld 3 0)) = false := by decide

/-- The first address beyond the last one, and an address whose satellite does not exist. -/
theorem witness_AbsentSatelliteIsNotFound :
    (addressesSat (.setactval (fld 4 3)) = true ∧ (Instr.setactval (fld 4 3)).wellFormed = true
        ∧ argInRange (withArg atWork 0xFF).host.arg (.setactval (fld 4 3)) = true
        ∧ atWork.cfg.maxSats ≤ (Instr.setactval (fld 4 3)).fields.sat.toNat)
      ∧ addressesSat (.rdsatstate (fld 0 0)) = true ∧ (Instr.rdsatstate (fld 0 0)).wellFormed = true
        ∧ argInRange fresh.host.arg (.rdsatstate (fld 0 0)) = true
        ∧ (fresh.sat (Instr.rdsatstate (fld 0 0)).fields.sat.toNat).present = false := by decide

theorem witness_CommandErrorsHaveNoOtherEffect :
    ∃ t, exec (.nop (fld 1 0)) atWork = .next t ∧ t.host.result ≠ 0 := ⟨_, rfl, by decide⟩

/-- The channel and ARG at the last value in range and the first one out of it; the last address and the next one. -/
theorem witness_SetActValWritesOneChannel :
    atWork.Shape
      ∧ (fld 0 0 1).unusedZero { sat := true, ch := true } = false ∧ 3 < (fld 0 4).ch.toNat
      ∧ 256 ≤ (withArg atWork 0x100).host.arg.toNat
      ∧ (let f := fld 3 3
         ¬ (f.unusedZero { sat := true, ch := true } = false ∨ 3 < f.ch.toNat
            ∨ 256 ≤ (withArg atWork 0xFF).host.arg.toNat) ∧ atWork.satPresent f.sat.toNat = true)
      ∧ atWork.satPresent (fld 4 3).sat.toNat = false :=
  ⟨atWork_sound.shape, by decide, by decide, by decide, by decide, by decide⟩

theorem witness_SetActModeWritesOneChannel :
    atWork.Shape
      ∧ (fld 0 0 0 true).unusedZero { sat := true, ch := true } = false ∧ 3 < (fld 0 4).ch.toNat
      ∧ 8 ≤ (withArg atWork 8).host.arg.toNat
      ∧ (let f := fld 3 3
         ¬ (f.unusedZero { sat := true, ch := true } = false ∨ 3 < f.ch.toNat
            ∨ 8 ≤ (withArg atWork 7).host.arg.toNat) ∧ atWork.satPresent f.sat.toNat = true)
      ∧ atWork.satPresent (fld 4 3).sat.toNat = false :=
  ⟨atWork_sound.shape, by decide, by decide, by decide, by decide, by decide⟩

theorem witness_SetSatEnWritesTheRequest :
    atWork.Shape
      ∧ (fld 0 1).unusedZero { sat := true } = false ∧ 2 ≤ (withArg atWork 2).host.arg.toNat
      ∧ (let f := fld 3 0
         ¬ (f.unusedZero { sat := true } = false ∨ 2 ≤ (withArg atWork 1).host.arg.toNat)
          ∧ atWork.satPresent f.sat.toNat = true)
      ∧ atWork.satPresent (fld 4 0).sat.toNat = false :=
  ⟨atWork_sound.shape, by decide, by decide, by decide, by decide⟩

theorem witness_LinkEnableRequestsDiscovery :
    (fld 1 0).unusedZero {} = false ∧ ¬ (fld 0 0).unusedZero {} = false
      ∧ atWork.link.adm = .enable ∧ fresh.link.adm = .disable := by decide

theorem witness_LinkDisableNeedsDisabledSatellites :
    (fld 1 0).unusedZero {} = false ∧ ¬ (fld 0 0).unusedZero {} = false ∧ fresh.link.adm = .disable
      ∧ (atWork.link.adm = .enable ∧ ∃ a, atWork.satPresent a = true ∧ (atWork.sat a).adm = .enable)
      ∧ (fresh.setAdm .link .enable).link.adm = .enable
      ∧ ¬ ∃ a, (fresh.setAdm .link .enable).satPresent a = true
          ∧ ((fresh.setAdm .link .enable).sat a).adm = .enable := by
  refine ⟨by decide, by decide, by decide, ⟨by decide, 0, by decide, by decide⟩, by decide, ?_⟩
  rintro ⟨a, h, _⟩
  have := (fresh_sound.discovery.idle rfl).2 a |>.mp h
  exact absurd this (Nat.not_lt_zero a)

/-- A satellite that becomes WORKING, and one that stays blocked. -/
theorem witness_SatEnableStartsASelftest :
    atWork.Shape ∧ (fld 0 1).unusedZero { sat := true } = false ∧ ¬ (fld 3 0).unusedZero { sat := true } = false
      ∧ atWork.satPresent 4 = false
      ∧ (atWork.satPresent 3 = true ∧ (atWork.sat 3).adm = .enable)
      ∧ (blocked.satPresent 3 = true ∧ (blocked.sat 3).adm = .disable ∧ blocked.link.adm = .enable)
      ∧ (let s := blocked.setAdm .link .disable
         s.satPresent 3 = true ∧ (s.sat 3).adm = .disable ∧ s.link.adm = .disable)
      ∧ (let s := ran atWork 0x00000307
         s.satPresent 3 = true ∧ (s.sat 3).adm = .disable ∧ s.link.adm = .enable) :=
  ⟨atWork_sound.shape, by decide, by decide, by decide, by decide, by decide, by decide, by decide⟩

theorem witness_SatDisableBlocksTheSatellite :
    atWork.Shape ∧ (fld 0 1).unusedZero { sat := true } = false ∧ ¬ (fld 3 0).unusedZero { sat := true } = false
      ∧ atWork.satPresent 4 = false
      ∧ (atWork.satPresent 3 = true ∧ (atWork.sat 3).adm = .enable)
      ∧ blocked.satPresent 3 = true ∧ (blocked.sat 3).adm = .disable :=
  ⟨atWork_sound.shape, by decide, by decide, by decide, by decide, by decide, by decide⟩

theorem witness_SelftestStartsOnAWorkingSatellite :
    atWork.Shape ∧ (fld 0 1).unusedZero { sat := true } = false ∧ ¬ (fld 3 0).unusedZero { sat := true } = false
      ∧ atWork.satPresent 4 = false
      ∧ (atWork.satPresent 3 = true ∧ (atWork.sat 3).stPhase = .idle ∧ (atWork.sat 3).op = 0)
      ∧ (blocked.satPresent 3 = true ∧ (blocked.sat 3).stPhase = .idle ∧ (blocked.sat 3).op ≠ 0)
      ∧ ((ran atWork 0x00000308).sat 3).stPhase ≠ .idle :=
  ⟨atWork_sound.shape, by decide, by decide, by decide, by decide, by decide, by decide⟩

/-- A pair with high = low, and one with high = low + 1. -/
theorem witness_ThresholdCommandsWriteOnePair :
    atWork.Shape ∧ (fld 1 0).unusedZero {} = false ∧ (fld 0 0).unusedZero {} = true
      ∧ (fld 0 1).unusedZero { sat := true } = false ∧ (fld 3 0).unusedZero { sat := true } = true
      ∧ (0x00020002#32).extractLsb' 16 16 ≤ (0x00020002#32).extractLsb' 0 16
      ∧ (0x00030002#32).extractLsb' 0 16 < (0x00030002#32).extractLsb' 16 16
      ∧ atWork.satPresent 3 = true ∧ atWork.satPresent 4 = false :=
  ⟨atWork_sound.shape, by decide, by decide, by decide, by decide, by decide, by decide, by decide, by decide⟩

theorem witness_RdLinkCntReadsOneCounter :
    (fld 1 0 0).unusedZero { kindSelRst := true } = false ∧ 5 < (fld 0 0 6).kind.toNat
      ∧ (fld 0 0 0).kind.toNat = 0 ∧ (fld 0 0 5).kind.toNat = 5
      ∧ (fld 0 0 5 true true).unusedZero { kindSelRst := true } = true := by decide

/-- Every boundary of the legal KIND codes. -/
theorem witness_RdSatCntReadsOneCounter :
    atWork.Shape ∧ (fld 0 1 2).unusedZero { sat := true, kindSelRst := true } = false
      ∧ (∀ k ∈ [0, 1, 5, 9, 15], ¬ ((2 ≤ k ∧ k ≤ 4) ∨ (6 ≤ k ∧ k ≤ 8)))
      ∧ (∀ k ∈ [2, 4], 2 ≤ k ∧ k ≤ 4) ∧ (∀ k ∈ [6, 8], 6 ≤ k ∧ k ≤ 8)
      ∧ (fld 3 0 8).unusedZero { sat := true, kindSelRst := true } = true
      ∧ atWork.satPresent 3 = true ∧ atWork.satPresent 4 = false :=
  ⟨atWork_sound.shape, by decide, by decide, by decide, by decide, by decide, by decide, by decide⟩

theorem witness_RdSatStateReadsTheStateWord :
    (fld 0 1).unusedZero { sat := true } = false ∧ ¬ (fld 3 0).unusedZero { sat := true } = false
      ∧ atWork.satPresent 3 = true ∧ atWork.satPresent 4 = false ∧ atWork.cfg.frameLayout = defaultLayout := by decide

theorem witness_ConsumeStatusReadsAndClearsDirty :
    atWork.Shape ∧ (fld 0 1).unusedZero { sat := true } = false ∧ ¬ (fld 3 0).unusedZero { sat := true } = false
      ∧ atWork.satPresent 3 = true ∧ atWork.satPresent 4 = false :=
  ⟨atWork_sound.shape, by decide, by decide, by decide, by decide⟩

/-- A width, an offset and an address just out of range, and the last offset in it. -/
theorem witness_OtherAccessesAreRefused :
    ¬ ((2 : Nat) = 4 ∧ 0x04 % 4 = 0 ∧ 0x04 ≤ 0xFC) ∧ ¬ ((4 : Nat) = 4 ∧ 0x02 % 4 = 0 ∧ 0x02 ≤ 0xFC)
      ∧ ¬ ((4 : Nat) = 4 ∧ 0x100 % 4 = 0 ∧ 0x100 ≤ 0xFC) ∧ ((4 : Nat) = 4 ∧ 0xFC % 4 = 0 ∧ 0xFC ≤ 0xFC) := by decide

theorem witness_ReadingEventTakesTheOldest :
    ({ atWork with evq := [1, 2] } : State).evq = 1 :: [2] ∧ atWork.evq = []
      ∧ (0x24 % 4 = 0 ∧ 0x24 ≤ 0x24 ∧ 0x24 ≤ 0xFC) ∧ 0xFC % 4 = 0 ∧ 0x24 ≤ 0xFC ∧ 0xFC ≤ 0xFC := by decide

theorem witness_WritesToTheRegisters :
    (0x80000000#32).getLsbD 31 = true ∧ (0x7FFFFFFF#32).getLsbD 31 = false
      ∧ 0x24 % 4 = 0 ∧ 0xFC % 4 = 0 ∧ 0x08 ∈ [0x08, 0x0C, 0x10, 0x14, 0x18, 0x1C] := by decide

/-- `s` before the reset input. -/
def beforeReset (s : State) : State := { s with env := { s.env with agenda := [.reset], clockIn := [5] } }

theorem witness_ResetLeavesTheTableOfValues :
    exampleParams.legal = true ∧ (beforeReset atWork).input = .reset
      ∧ (moved (beforeReset atWork)).time.periodBase = 105 := by decide

/-- The default layout, and one that is not the default. -/
theorem witness_FrameRoundTrip :
    layoutLegal defaultLayout = true ∧ layoutLegal defaultLayout.reverse = true := by decide

theorem witness_SentPulsesReadBack :
    exampleParams.legal = true ∧ (exampleParams.b1Min ≤ exampleParams.t1h ∧ exampleParams.t1h ≤ exampleParams.b1Max)
      ∧ (exampleParams.b0Min ≤ exampleParams.t0h ∧ exampleParams.t0h ≤ exampleParams.b0Max)
      ∧ (exampleParams.tpMin ≤ exampleParams.t1h + exampleParams.t1l
          ∧ exampleParams.t1h + exampleParams.t1l ≤ exampleParams.tpMax)
      ∧ exampleParams.tpMin ≤ exampleParams.t0h + exampleParams.t0l
      ∧ exampleParams.t0h + exampleParams.t0l ≤ exampleParams.tpMax := by decide

/-- Two bursts that differ in every level but the first space's. -/
theorem witness_LevelsAreCheckedOnce :
    ([⟨true, 7, false, 3⟩] : List Pulse).map (fun q => (q.markTicks, q.spaceTicks))
      = ([⟨false, 7, true, 3⟩] : List Pulse).map (fun q => (q.markTicks, q.spaceTicks)) := by decide

/-- A burst that is accepted, with the period of its last pulse out of its band; one that the period check turns
away, one whose first space is at the wrong level, and one that is a pulse too short. -/
theorem witness_DepulseAcceptsExactly :
    exampleParams.legal = true
      ∧ depulse exampleParams (some [⟨true, 8, false, 1⟩, ⟨false, 2, true, 0⟩]) 2 = .ok [true, false]
      ∧ depulse exampleParams (some [⟨true, 8, false, 0⟩, ⟨false, 2, true, 0⟩]) 2 = .symbolError
      ∧ depulse exampleParams (some [⟨true, 8, true, 1⟩]) 1 = .symbolError
      ∧ depulse exampleParams (some [⟨true, 8, false, 1⟩]) 2 = .sizeError := by decide

/-- Every micro-step; WAIT one millisecond before the period, and at its start. -/
theorem witness_MicroStepsInCyclicOrder :
    (∀ p ∈ [ScanPhase.wait, .encode, .txrx, .process, .budget, .seq, .timing],
        (before atWork p).input = .scan ∧ (before atWork p).scanPhase = p)
      ∧ (moved (before { atWork with time := { atWork.time with periodBase := 101 } } .wait)).scanPhase = .wait
      ∧ (moved (before { atWork with time := { atWork.time with periodBase := 101 } } .wait 1)).scanPhase = .encode := by
  decide

theorem before_sound : (before atWork .encode).Sound ∧ (before blocked .encode).Sound :=
  ⟨sound_of_check (by decide), sound_of_check (by decide)⟩

/-- Satellite 3 without a request, its three modes still on their way. -/
def fading : State :=
  before (atWork.modifySlot 3 fun sl => { sl with tm := ⟨.active, .deactivating 2, .deactivating 1⟩ }) .encode

theorem witness_EncodeBringsTheWireUpToDate :
    (let s := before atWork .encode
     s.Sound ∧ s.input = .scan ∧ s.scanPhase = .encode ∧ s.activeSlots = 4)
      ∧ fading.Sound ∧ fading.input = .scan ∧ fading.scanPhase = .encode ∧ fading.disc.pending = false
      ∧ 3 < fading.activeSlots ∧ fading.activeSlots ≤ 4 :=
  ⟨⟨before_sound.1, rfl, rfl, rfl⟩, sound_of_check (by decide), rfl, rfl, rfl, by decide, by decide⟩

theorem witness_BlockedLinkEnablesNothing :
    let s := before blocked .encode
    s.Sound ∧ s.input = .scan ∧ s.scanPhase = .encode ∧ s.link.op ≠ 0 ∧ s.activeSlots = 4 :=
  ⟨before_sound.2, rfl, rfl, by decide, rfl⟩

theorem witness_TxrxSendsTheActiveSlots :
    (before fresh .txrx).input = .scan ∧ (before fresh .txrx).scanPhase = .txrx ∧ (before fresh .txrx).activeSlots = 0
      ∧ (before atWork .txrx).activeSlots ≠ 0 := by decide

/-- PROCESS with each transport error. -/
theorem witness_TransportErrorsDecodeNothing :
    ∀ c ∈ [CycleRegs.mk true false [], CycleRegs.mk false true []],
      let s := before { atWork with cyc := c } .process
      s.Shape ∧ s.activeSlots ≤ s.slots.length ∧ s.input = .scan ∧ s.scanPhase = .process
        ∧ (s.cyc.sym = true ∨ s.cyc.size = true) := by
  intro c hc
  refine ⟨shape_of_check (by revert c; decide), ?_, rfl, rfl, ?_⟩ <;> revert c <;> decide

/-- Four frames received, the second with a bad CRC, the third with a feedback error. -/
def received : State :=
  before { atWork with cyc := ⟨false, false,
    [0, 1, setCrc .direct 0x10 false, 0].flatMap frameBits⟩ } .process

/-- spec/42_scan_engine.md R151, R153: one ENCODE moves each mode of a slot without a request on by one. -/
theorem test_test_modes :
    ((moved fading).slot 3).tm = ⟨.deactivating 2, .deactivating 1, .inactive⟩ := by decide +kernel

theorem witness_ProcessDecodesEveryActiveSlot :
    received.Shape ∧ received.activeSlots ≤ received.slots.length ∧ received.input = .scan
      ∧ received.scanPhase = .process ∧ received.cyc.sym = false ∧ received.cyc.size = false
      ∧ (3 < received.activeSlots ∧ received.activeSlots ≤ 4) :=
  ⟨shape_of_check (by decide), by decide, rfl, rfl, rfl, rfl, by decide⟩

theorem witness_LatchAccumulatesUntilConsumed :
    ({ Status.zero with dirty := true } : Status).dirty = true ∧ Status.zero.dirty = false := by decide

/-- An ACTIVE test, a DEACTIVATING one that counts as a test, and none. -/
theorem witness_ErrorsGoToOneSetOfCounters :
    atWork.Shape ∧ atWork.satPresent 3 = true ∧ (atWork.slot 3).tm.get .srv ≠ .active
      ∧ ((atWork.modifySlot 3 fun sl => { sl with tm := ⟨.active, .deactivating 1, .inactive⟩ }).slot 3).tm.get .srv
        = .active
      ∧ ((atWork.modifySlot 3 fun sl => { sl with tm := ⟨.active, .deactivating 1, .inactive⟩ }).slot 3).tm.get .cli
        = .deactivating 1 :=
  ⟨atWork_sound.shape, by decide, by decide, by decide, by decide⟩

/-- Twenty genuine errors this second, the high threshold, on the Link alone. -/
def overBudget : State := before { atWork with link := { atWork.link with sec := ⟨0, 0, 20, 0, 0, 0⟩ } } .budget 7

/-- spec/42_scan_engine.md R167 with spec/44_state_machine.md R210, R220: the cascade's events, the Link's event, the
timer. -/
theorem test_budget_sets_error_second :
    let t := moved overBudget
    t.evq = [0x20000004, 0x20100004, 0x20200004, 0x20300004, 0x2FF00008] ∧ t.link.op = 0x08
      ∧ t.reest.armed = true := by decide +kernel

/-- A BUDGET at a boundary, and one a millisecond short of it; the sum at the high threshold. -/
theorem witness_BudgetFollowsTheThresholds :
    (∀ d ∈ [999, 1000], (before atWork .budget d).Shape ∧ (before atWork .budget d).ThresholdsOrdered
        ∧ (before atWork .budget d).input = .scan ∧ (before atWork .budget d).scanPhase = .budget
        ∧ (before atWork .budget d).env.clockIn = [d])
      ∧ (moved (before atWork .budget 999)).time.secBase = 100
      ∧ (moved (before atWork .budget 1000)).time.secBase = 1100
      ∧ hasBit overBudget.link.op 0x08#5 = false ∧ overBudget.link.thresHigh.toNat = overBudget.link.sec.sum := by
  refine ⟨fun d hd => ⟨shape_of_check (by revert d; decide), ?_, rfl, rfl, rfl⟩, by decide, by decide, by decide, by decide⟩
  exact ⟨atWork_sound.thresholds.link, atWork_sound.thresholds.sats⟩

/-- The Link and satellite 3 in ERROR_SECOND, at a boundary after a second without errors. -/
def erring : State :=
  before { atWork with
    link := { atWork.link with op := 0x08 }
    sats := atWork.sats.mapIdx fun a x => { x with op := if a = 3 then 0x0C else 0x04 } } .budget 1000

theorem witness_OnlyABoundaryClearsErrorSecond :
    erring.Sound ∧ step erring = .next (moved erring)
      ∧ (hasBit erring.link.op 0x08#5 = true ∧ hasBit (moved erring).link.op 0x08#5 = false)
      ∧ erring.satPresent 3 = true ∧ hasBit (erring.sat 3).op 0x08#5 = true
      ∧ hasBit ((moved erring).sat 3).op 0x08#5 = false :=
  ⟨sound_of_check (by decide), rfl, by decide, by decide, by decide, by decide⟩

/-- One millisecond before the next period, and at its start. -/
theorem witness_OverrunsAreCountedAndNotMadeUp :
    (before atWork .timing).input = .scan ∧ (before atWork .timing).scanPhase = .timing
      ∧ (moved (before atWork .timing 4)).link = atWork.link ∧ (moved (before atWork .timing 5)).link ≠ atWork.link := by
  decide

theorem witness_OpBlockRaisesTheFlag :
    atWork.Shape ∧ blocked.Shape ∧ atWork.link.op = 0 ∧ blocked.link.op ≠ 0 ∧ opFail &&& 0x18#5 ≠ 0
      ∧ opDisabled &&& 0x18#5 = 0 ∧ atWork.satPresent 3 = true :=
  ⟨atWork_sound.shape, blocked_sound.shape, by decide, by decide, by decide, by decide, by decide⟩

theorem witness_OpDeBlockClearsTheFlag :
    atWork.Shape ∧ blocked.Shape ∧ (blocked.link.op ≠ 0 ∧ blocked.link.op &&& ~~~(opFail ||| opErrorSecond) = 0)
      ∧ blocked.satPresent 3 = true :=
  ⟨atWork_sound.shape, blocked_sound.shape, by decide, by decide⟩

/-- A timer that is due now and asks for discovery, one that is due and does not, and one that is not yet due; a SEQ
without a discovery and one with. -/
theorem witness_ReestablishmentIsOneShot :
    (let s := { blocked with reest := ⟨true, 100⟩ }
     s.reest.armed = true ∧ s.reest.deadline ≤ s.time.t5 ∧ s.link.op &&& 0x18#5 ≠ 0 ∧ s.link.adm = .enable
      ∧ s.disc.state = .idle ∧ s.disc.pending = false)
      ∧ (let s := { atWork with reest := ⟨true, 100⟩ }
         s.reest.armed = true ∧ s.reest.deadline ≤ s.time.t5 ∧ ¬ s.link.op &&& 0x18#5 ≠ 0)
      ∧ (let s := { blocked with reest := ⟨true, 101⟩ }
         ¬ s.reest.deadline ≤ s.time.t5)
      ∧ ((before blocked .seq).input = .scan ∧ (before blocked .seq).scanPhase = .seq
          ∧ (before blocked .seq).disc.state = .idle)
      ∧ (let s := before { fresh with disc := ⟨.clear, 2, 1, false⟩ } .seq
         s.input = .scan ∧ s.scanPhase = .seq ∧ ¬ s.disc.state = .idle) := by decide

/-- A Link whose discovery is pending, with a self-test running on satellite 3. -/
theorem witness_DiscoveryProbesEverySlot :
    let s := before { (ran atWork 0x00000308) with disc := ⟨.idle, 0, 0, true⟩ } .encode
    s.Sound ∧ s.input = .scan ∧ s.scanPhase = .encode ∧ s.disc.pending = true :=
  ⟨sound_of_check (by decide), rfl, rfl, rfl⟩

/-- The probe about to be evaluated, the first `k` slots answering it. -/
def probing (k : Nat) : State :=
  before { fresh with
    link := { fresh.link with noOfSats := 5 }
    disc := ⟨.probe, 1, 0, false⟩
    slots := fresh.slots.mapIdx fun i sl =>
      { sl with txReq := ⟨true, false, false⟩, status := { sl.status with remoteCrcError := decide (i < k) } } } .seq

theorem probing_sound : (probing 0).Sound ∧ (probing 4).Sound ∧ (probing 5).Sound :=
  ⟨sound_of_check (by decide), sound_of_check (by decide), sound_of_check (by decide)⟩

/-- A window that runs on. -/
theorem witness_ProbeFindsTheContiguousRun_countdown :
    (DiscRegs.mk .probe 2 0 false).state ≠ .idle ∧ (DiscRegs.mk .probe 2 0 false).cnt ≠ 1
      ∧ (DiscRegs.mk .clear 0 0 false).state ≠ .idle ∧ (DiscRegs.mk .clear 0 0 false).cnt ≠ 1 := by decide

/-- No satellite, as many as there may be, and one too many. -/
theorem witness_ProbeFindsTheContiguousRun :
    (∀ k ∈ [0, 4, 5], (probing k).Sound ∧ (probing k).input = .scan ∧ (probing k).scanPhase = .seq
        ∧ (probing k).disc.state = .probe ∧ (probing k).disc.cnt = 1)
      ∧ ((probing 0).slot 0).status.remoteCrcError = false
      ∧ (∀ i, i < 4 → ((probing 4).slot i).status.remoteCrcError = true)
      ∧ ((probing 4).slot 4).status.remoteCrcError = false ∧ ((probing 5).slot 4).status.remoteCrcError = true := by
  refine ⟨fun k hk => ⟨?_, rfl, rfl, rfl, rfl⟩, by decide, by decide, by decide, by decide⟩
  simp only [List.mem_cons, List.not_mem_nil, or_false] at hk
  rcases hk with rfl | rfl | rfl
  · exact probing_sound.1
  · exact probing_sound.2.1
  · exact probing_sound.2.2

/-- The end of the settle window, `k` satellites found. -/
def settling (k : BitVec 8) : State :=
  before { fresh with link := { fresh.link with noOfSats := 5 }, disc := ⟨.clear, 1, k, false⟩ } .seq

/-- No satellite, and as many as there may be. -/
theorem witness_DiscoveryCreatesTheSatellitesFound :
    (settling 0).Sound ∧ (settling 4).Sound ∧ (settling 4).input = .scan ∧ (settling 4).scanPhase = .seq
      ∧ (settling 4).disc.state = .clear ∧ (settling 4).disc.cnt = 1 ∧ 0 < (settling 4).disc.result.toNat
      ∧ (settling 0).disc.result = 0 :=
  ⟨sound_of_check (by decide), sound_of_check (by decide), rfl, rfl, rfl, rfl, by decide, rfl⟩

/-- spec/43_discovery.md R204: the cycle in which discovery finishes still sends MAX_SATS + 1 = 5 frames, the next one
the 3 found (log 31). -/
theorem test_burst_of_the_finishing_cycle :
    (moved { settling 3 with scanPhase := .txrx }).line.txBurst.length = 5 * 64
      ∧ (moved (before (moved (settling 3)) .txrx)).line.txBurst.length = 3 * 64 := by decide +kernel

/-- spec/43_discovery.md R199 with spec/44_state_machine.md R212, R213: a Link that only INIT blocked becomes WORKING,
its counters 0. -/
theorem test_discovery_resets_counters :
    let s := settling 2
    let t := moved { s with link := { s.link with adm := .enable, op := 0x01, cum := ⟨1, 2, 3, 4, 5, 6⟩ } }
    t.link.op = 0 ∧ t.link.cum = LinkCounters.zero ∧ (t.sat 1).op = 0x02 := by decide +kernel

/-- spec/45_selftest.md R231: the SEQ that finds the test running takes one cycle off its phase; one that came before
the start does not (log 30). -/
theorem test_selftest_started_after_seq :
    ((moved (ran (before atWork .seq) 0x00000308)).sat 3).stCnt = 49
      ∧ ((moved (ran (before atWork .timing) 0x00000308)).sat 3).stCnt = 50 := by decide +kernel

/-- Satellite 3 in phase `p` of a self-test with `n` cycles left and test counters `c`. -/
def testing (p : StPhase) (n : BitVec 16) (c : TestCounters) : State :=
  before ((atWork.modifySat 3 fun x => { x with stPhase := p, stCnt := n, stImplicit := true, test := c }).modifySlot 3
    fun sl => { sl with txReq := p.requests }) .seq

/-- Each phase with cycles left and at its end, with its counter at 0 and not. -/
theorem witness_SelftestPhasesFollowTheirCounters :
    ∀ p ∈ [StPhase.srv, .cli, .wd], ∀ n ∈ [1#16, 2#16], ∀ c ∈ [TestCounters.zero, ⟨1, 1, 1⟩],
      let s := testing p n c
      s.Sound ∧ s.input = .scan ∧ s.scanPhase = .seq ∧ s.disc.state = .idle ∧ s.satPresent 3 = true
        ∧ (s.sat 3).stPhase ≠ .idle ∧ (s.sat 3).stCnt = n := by
  intro p hp n hn c hc
  have h : ([StPhase.srv, .cli, .wd].all fun p => [1#16, 2#16].all fun n =>
      [TestCounters.zero, ⟨1, 1, 1⟩].all fun c => (testing p n c).check && (testing p n c).satPresent 3
        && decide (((testing p n c).sat 3).stPhase ≠ .idle) && decide (((testing p n c).sat 3).stCnt = n)) = true := by
    decide
  have := List.all_eq_true.mp (List.all_eq_true.mp (List.all_eq_true.mp h p hp) n hn) c hc
  simp only [Bool.and_eq_true, decide_eq_true_eq] at this
  exact ⟨sound_of_check this.1.1.1, rfl, rfl, rfl, this.1.1.2, this.1.2, this.2⟩

/-- A satellite beside it whose test does not run. -/
theorem witness_SelftestPhasesFollowTheirCounters_others :
    ¬ ((testing .srv 1 TestCounters.zero).satPresent 2 = true
      ∧ ((testing .srv 1 TestCounters.zero).sat 2).stPhase ≠ .idle) := by decide

/-- A queue with one place left, and a full one; the last address; a step, a write to EVSTAT and a reset with the
overflow flag set. -/
theorem witness_StepKeepsTheQueueSound :
    (let s : State := { fresh with cfg := { fresh.cfg with evqDepth := some 2 }, evq := [0x10000001] }
     s.cfg.evqDepth = some 2 ∧ s.evq.length < 2 ∧ 2 ≤ ({ s with evq := [0x10000001, 0x10100001] } : State).evq.length)
      ∧ 254 < 255
      ∧ (let s : State := before { atWork with evOvf := true } .timing
         step s = .next (moved s) ∧ s.evOvf = true ∧ (moved s).evOvf = true ∧ s.QueueSound)
      ∧ (let s : State := { atWork with evOvf := true
                                        env := { atWork.env with agenda := [.host (.write 0x20 4 0x80000000)] } }
         step s = .next (moved s) ∧ s.evOvf = true ∧ (moved s).evOvf = false)
      ∧ (let s : State := beforeReset { atWork with evOvf := true }
         step s = .next (moved s) ∧ s.evOvf = true ∧ (moved s).evOvf = false) :=
  ⟨by decide, by decide, ⟨rfl, rfl, rfl, (sound_of_check (by decide) : State.Sound _).queue⟩, ⟨rfl, rfl, rfl⟩, rfl, rfl,
    rfl⟩

theorem witness_SoundAtReset : exampleParams.legal = true := by decide

/-- A sound state and its next one by a micro-step, by a command and by a reset: the hypotheses of every statement
that a step keeps an invariant. -/
theorem witness_StepKeepsTheInvariants :
    ((before atWork .encode).Sound ∧ step (before atWork .encode) = .next (moved (before atWork .encode)))
      ∧ (let s := atWork.pushCommand 0x00000308
         s.Sound ∧ step s = .next (moved s))
      ∧ (let s := { atWork with env := { atWork.env with agenda := [.reset] } }
         s.Sound ∧ step s = .next (moved s)) :=
  ⟨⟨before_sound.1, rfl⟩, ⟨sound_of_check (by decide), rfl⟩, sound_of_check (by decide), rfl⟩

end Sys2Proof.Tests
end

/-! # The host register space (spec/20_memory.md R61 to R68)

First when an access is admitted and what each kind of access then is, next what each register does; the statements
on the accesses and on the writes come last. -/

namespace Sys2Proof.Machine

section HostAccess

variable (s : State) {addr width : Nat}

/-! ## Admission (R64) -/

theorem accessAdmitted_iff :
    accessAdmitted addr width = true ↔ width = 4 ∧ addr % 4 = 0 ∧ addr ≤ 0xFC := by
  simp [accessAdmitted, and_assoc]

theorem accessAdmitted_of_aligned (haligned : addr % 4 = 0) (hwindow : addr ≤ 0xFC) : accessAdmitted addr 4 = true :=
  accessAdmitted_iff.mpr ⟨rfl, haligned, hwindow⟩

theorem hostAccess_read_of_admitted (h : accessAdmitted addr width = true) :
    hostAccess (.read addr width) s = .next (s.readRegister addr) := by
  simp [hostAccess, h]

theorem hostAccess_write_of_admitted (v : Word) (h : accessAdmitted addr width = true) (hcmd : addr ≠ 0x00) :
    hostAccess (.write addr width v) s = .next (s.writeRegister addr v) := by
  simp [hostAccess, h, hcmd]

theorem hostAccess_write_cmd (v : Word) : hostAccess (.write 0x00 4 v) s = exec (decodeWord v) s := rfl

theorem hostAccess_read_of_not_admitted (h : ¬ accessAdmitted addr width = true) :
    hostAccess (.read addr width) s = .refused .accessNotAdmitted := by
  simp [hostAccess, h]

theorem hostAccess_write_of_not_admitted (v : Word) (h : ¬ accessAdmitted addr width = true) :
    hostAccess (.write addr width v) s = .refused .accessNotAdmitted := by
  simp [hostAccess, h]

/-- No command is refused and none faults: whatever it meets ends in a result code. -/
theorem exec_answers_next (i : Instr) : ∃ t, exec i s = .next t := by
  rcases exec_spec s i with ⟨c, h⟩ | ⟨t, v, _, h⟩
  · exact ⟨_, h⟩
  · exact ⟨_, h⟩

theorem hostAccess_write_answers_next (v : Word) (h : accessAdmitted addr width = true) :
    ∃ t, hostAccess (.write addr width v) s = .next t := by
  by_cases hcmd : addr = 0x00
  · obtain ⟨rfl, -, -⟩ := accessAdmitted_iff.mp h
    subst hcmd
    exact exec_answers_next s (decodeWord v)
  · exact ⟨_, hostAccess_write_of_admitted s v h hcmd⟩

/-! ## The registers (R62, R65 to R68) -/

@[simp] theorem writeRegister_arg (v : Word) :
    s.writeRegister 0x04 v = { s with host := { s.host with arg := v } } := rfl

@[simp] theorem writeRegister_evstat (v : Word) :
    s.writeRegister 0x20 v = if v.getLsbD 31 then { s with evOvf := false } else s := rfl

/-- ARG and EVSTAT are the only registers that `writeRegister` changes. -/
theorem writeRegister_of_ne (v : Word) (harg : addr ≠ 0x04) (hstat : addr ≠ 0x20) : s.writeRegister addr v = s := by
  unfold State.writeRegister
  split
  · exact absurd rfl harg
  · exact absurd rfl hstat
  · rfl

/-- EVENT is the only register whose read changes more than the value returned. -/
theorem readRegister_of_ne_event (h : addr ≠ 0x1C) :
    s.readRegister addr = { s with readValue := some (s.register addr) } := by
  simp [State.readRegister, State.setReadValue, h]

theorem register_of_reserved (h : 0x24 ≤ addr) : s.register addr = 0 := by
  unfold State.register
  split
  case h_10 => rfl
  all_goals omega

/-- A write to any offset of the window but those of CMD, ARG and EVSTAT has no effect. -/
theorem hostAccess_write_of_ne (v : Word) (haligned : addr % 4 = 0) (hwindow : addr ≤ 0xFC) (hcmd : addr ≠ 0x00)
    (harg : addr ≠ 0x04) (hstat : addr ≠ 0x20) : hostAccess (.write addr 4 v) s = .next s := by
  rw [hostAccess_write_of_admitted s v (accessAdmitted_of_aligned haligned hwindow) hcmd,
    writeRegister_of_ne s v harg hstat]

theorem hostAccess_read_of_reserved (haligned : addr % 4 = 0) (hlow : 0x24 ≤ addr) (hwindow : addr ≤ 0xFC) :
    hostAccess (.read addr 4) s = .next { s with readValue := some 0 } := by
  rw [hostAccess_read_of_admitted s (accessAdmitted_of_aligned haligned hwindow),
    readRegister_of_ne_event s (by omega), register_of_reserved s hlow]

end HostAccess

end Sys2Proof.Machine

section HostRegisterStatements

open Sys2Proof Sys2Proof.Machine

/-- Settles O25: the test of an access is the condition of R64, and every admitted access answers a next state, a
command among them. -/
theorem otherAccessesAreRefused : Obligations.OtherAccessesAreRefused := by
  intro s addr width v
  rw [← accessAdmitted_iff]
  exact ⟨fun h => ⟨hostAccess_read_of_not_admitted s h, hostAccess_write_of_not_admitted s v h⟩,
    fun h => ⟨⟨_, hostAccess_read_of_admitted s h⟩, hostAccess_write_answers_next s v h⟩⟩

/-- Settles O27, register by register. -/
theorem writesToTheRegisters : Obligations.WritesToTheRegisters := by
  intro s v
  have evstat : hostAccess (.write 0x20 4 v) s = .next (s.writeRegister 0x20 v) :=
    hostAccess_write_of_admitted s v (by decide) (by decide)
  refine ⟨hostAccess_write_cmd s v, ?arg, ?readOnly, ?clears, ?keeps, ?reserved⟩
  case arg => rw [hostAccess_write_of_admitted s v (by decide) (by decide), writeRegister_arg]
  case readOnly =>
    intro addr haddr
    simp only [List.mem_cons, List.not_mem_nil, or_false] at haddr
    exact hostAccess_write_of_ne s v (by omega) (by omega) (by omega) (by omega) (by omega)
  case clears =>
    intro hbit
    rw [evstat, writeRegister_evstat, if_pos hbit]
  case keeps =>
    intro hbit
    rw [evstat, writeRegister_evstat, hbit, if_neg Bool.false_ne_true]
  case reserved =>
    intro addr haligned hlow hwindow
    exact ⟨hostAccess_write_of_ne s v haligned hwindow (by omega) (by omega) (by omega),
      hostAccess_read_of_reserved s haligned hlow hwindow⟩

end HostRegisterStatements

/-! # The checks of a command's unused bits (spec/30_encoding.md R93)

First the checks on the word: each test of Machine/Operands.lean is the one that the opcode's row calls for, and every
command of a legal opcode makes it before anything else. Next the unused bits of an ARG that is used. Last what a
command that does not use ARG does with it: no operation that such a command calls reads ARG, so each of them commutes
with a change of it. -/

namespace Sys2Proof.Machine

section UnusedFields

/-! ## The unused fields of the word -/

theorem onlyOpcode_eq_unusedZero (f : CmdFields) : onlyOpcode f = f.unusedZero {} := rfl

theorem onlySat_eq_unusedZero (f : CmdFields) : onlySat f = f.unusedZero { sat := true } := by
  simp [onlySat, reservedZero, counterFieldsZero, CmdFields.unusedZero]

theorem onlySatCh_eq_unusedZero (f : CmdFields) : onlySatCh f = f.unusedZero { sat := true, ch := true } := by
  simp [onlySatCh, reservedZero, counterFieldsZero, CmdFields.unusedZero]

theorem onlyCounter_eq_unusedZero (f : CmdFields) : onlyCounter f = f.unusedZero { kindSelRst := true } := by
  simp [onlyCounter, reservedZero, CmdFields.unusedZero]

theorem onlySatCounter_eq_unusedZero (f : CmdFields) :
    onlySatCounter f = f.unusedZero { sat := true, kindSelRst := true } := by
  simp [onlySatCounter, reservedZero, CmdFields.unusedZero]

theorem runCommand_badParameter (s : State) : runCommand s (.error .badParameter) = .next (s.ended 0x06 0) := rfl

/-- A legal opcode's command tests its unused fields before it does anything else. -/
theorem exec_tests_unused_fields (s : State) (i : Instr) (u : UsedFields) (hu : usedFields i = some u) :
    ∃ r, exec i s = runCommand s (if !i.fields.unusedZero u then .error .badParameter else r) := by
  cases i <;> cases hu
  case nop f | linkenable f | linkdisable f | setlinkthres f => exact ⟨_, rfl⟩
  case setactval f | setactmode f => exact ⟨_, by rw [Instr.fields, ← onlySatCh_eq_unusedZero]; rfl⟩
  case setsaten f | satenable f | satdisable f | selftest f | setsatthres f | rdsatstate f | consumestatus f =>
    exact ⟨_, by rw [Instr.fields, ← onlySat_eq_unusedZero]; rfl⟩
  case rdlinkcnt f => exact ⟨_, by rw [Instr.fields, ← onlyCounter_eq_unusedZero]; rfl⟩
  case rdsatcnt f => exact ⟨_, by rw [Instr.fields, ← onlySatCounter_eq_unusedZero]; rfl⟩

theorem exec_of_unused_field (s : State) (i : Instr) (u : UsedFields) (hu : usedFields i = some u)
    (hfield : i.fields.unusedZero u = false) : exec i s = .next (s.ended 0x06 0) := by
  obtain ⟨r, h⟩ := exec_tests_unused_fields s i u hu
  rw [h, hfield]
  exact runCommand_badParameter s

/-! ## The unused bits of ARG -/

theorem argFits_eq_false {x : Word} {n : Nat} (h : 2 ^ n ≤ x.toNat) : argFits x n = false :=
  decide_eq_false (Nat.not_lt.mpr h)

variable {s : State} (f : CmdFields)

theorem exec_setactval_of_arg (h : 256 ≤ s.host.arg.toNat) : exec (.setactval f) s = .next (s.ended 0x06 0) := by
  have hfits : argFits s.host.arg 8 = false := argFits_eq_false h
  simp [exec, execSetActVal, hfits, runCommand_badParameter]

theorem exec_setactmode_of_arg (h : 8 ≤ s.host.arg.toNat) : exec (.setactmode f) s = .next (s.ended 0x06 0) := by
  have hfits : argFits s.host.arg 3 = false := argFits_eq_false h
  simp [exec, execSetActMode, hfits, runCommand_badParameter]

theorem exec_setsaten_of_arg (h : 2 ≤ s.host.arg.toNat) : exec (.setsaten f) s = .next (s.ended 0x06 0) := by
  have hfits : argFits s.host.arg 1 = false := argFits_eq_false h
  simp [exec, execSetSatEn, hfits, runCommand_badParameter]

end UnusedFields

/-! ## A command that does not use ARG -/

/-- `s` with the value `v` in ARG. -/
def State.setArg (s : State) (v : Word) : State := s.setHost { s.host with arg := v }

/-- The result of a command with the value `v` in the ARG of the state it gives. -/
def CmdResult.setArg (r : CmdResult) (v : Word) : CmdResult := r.map fun p => (p.1.setArg v, p.2)

section IgnoredArg

variable (s : State) (v : Word)

theorem setArg_emit (e : Event) : (s.setArg v).emit e = (s.emit e).setArg v := by
  unfold State.emit
  rw [apply_ite (State.setArg · v)]
  rfl

theorem setArg_setSatOp (a : Nat) (op : OpState) : (s.setArg v).setSatOp a op = (s.setSatOp a op).setArg v := by
  unfold State.setSatOp
  rw [apply_ite (State.setArg · v)]
  rfl

theorem setArg_tick : (s.setArg v).tick = s.tick.setArg v := by
  have henv : (s.setArg v).env = s.env := rfl
  unfold State.tick
  rw [henv]
  split <;> rfl

theorem setArg_reestArm : (s.setArg v).reestArm = s.reestArm.setArg v := by
  unfold State.reestArm
  rw [setArg_tick]
  rfl

theorem setArg_blockOne (e : Entity) (flag : OpState) :
    (s.setArg v).blockOne e flag = (s.blockOne e flag).setArg v := by
  have hop : (s.setArg v).setOp e (s.op e ||| flag) = (s.setOp e (s.op e ||| flag)).setArg v := by
    cases e with
    | link => rfl
    | sat a => exact setArg_setSatOp s v a _
  unfold State.blockOne
  rw [← setArg_emit, ← hop]
  cases e <;> rfl

/-- A walk over the satellites whose visits do not read ARG does not read it either. -/
theorem setArg_forEachSat {g : Nat → State → State} (hg : ∀ a t, g a (t.setArg v) = (g a t).setArg v) :
    (s.setArg v).forEachSat g = (s.forEachSat g).setArg v := by
  have hvisit : ∀ t a, (if (State.setArg t v).satPresent a then g a (t.setArg v) else t.setArg v)
      = (if t.satPresent a then g a t else t).setArg v := by
    intro t a
    rw [hg, apply_ite (State.setArg · v)]
    rfl
  exact List.foldl_hom (State.setArg · v) hvisit

theorem setArg_opBlock (e : Entity) (flag : OpState) :
    (s.setArg v).opBlock e flag = (s.opBlock e flag).setArg v := by
  cases e with
  | sat a => exact setArg_blockOne s v (.sat a) flag
  | link =>
    have hlink : (s.setArg v).link = s.link := rfl
    have hwalk := setArg_forEachSat s v (g := fun a t => t.blockOne (.sat a) opControlBlocked)
      fun a t => setArg_blockOne t v (.sat a) opControlBlocked
    unfold State.opBlock
    simp only [hlink, hwalk]
    split <;> split <;> simp only [setArg_blockOne, setArg_reestArm]

theorem setArg_resetCounters (e : Entity) : (s.setArg v).resetCounters e = (s.resetCounters e).setArg v := by
  cases e <;> rfl

theorem setArg_deblockSat (a : Nat) (flag : OpState) :
    (s.setArg v).deblockSat a flag = (s.deblockSat a flag).setArg v := by
  have hsat : (s.setArg v).sat a = s.sat a := rfl
  unfold State.deblockSat
  simp only [hsat, setArg_setSatOp, setArg_resetCounters]
  split <;> simp only [setArg_emit]

theorem setArg_opDeBlock (e : Entity) (flag : OpState) :
    (s.setArg v).opDeBlock e flag = (s.opDeBlock e flag).setArg v := by
  cases e with
  | sat a => exact setArg_deblockSat s v a flag
  | link =>
    have hlink : (s.setArg v).link = s.link := rfl
    have hset : ∀ l, (s.setArg v).setLink l = (s.setLink l).setArg v := fun _ => rfl
    have hwalk := fun t => setArg_forEachSat t v (g := fun a u => u.deblockSat a opControlBlocked)
      fun a u => setArg_deblockSat u v a opControlBlocked
    unfold State.opDeBlock
    simp only [hlink, hset, hwalk, setArg_resetCounters]
    split <;> simp only [setArg_emit]

theorem setArg_selftestStart (a : Nat) (implicit : Bool) :
    (s.setArg v).selftestStart a implicit = (s.selftestStart a implicit).map (State.setArg · v) := by
  have hsat : (s.setArg v).sat a = s.sat a := rfl
  unfold State.selftestStart
  rw [hsat]
  split
  · rfl
  split <;> rfl

theorem setArg_afterDeBlock (e : Entity) : (s.setArg v).afterDeBlock e = (s.afterDeBlock e).setArg v := by
  cases e with
  | link => rfl
  | sat a =>
    simp only [State.afterDeBlock, setArg_selftestStart]
    cases s.selftestStart a true <;> rfl

theorem setArg_setAdm (e : Entity) (x : Adm) : (s.setArg v).setAdm e x = (s.setAdm e x).setArg v := by
  cases e <;> rfl

theorem setArg_adm (e : Entity) : (s.setArg v).adm e = s.adm e := by
  cases e <;> rfl

theorem setArg_admBlock (e : Entity) : (s.setArg v).admBlock e = (s.admBlock e).map (State.setArg · v) := by
  have hfree : (s.setArg v).someSatEnabled = s.someSatEnabled := rfl
  unfold State.admBlock
  rw [setArg_adm, hfree, setArg_setAdm, setArg_opBlock]
  split
  · rfl
  split <;> rfl

theorem setArg_admDeBlock (e : Entity) : (s.setArg v).admDeBlock e = (s.admDeBlock e).map (State.setArg · v) := by
  have hlink : (s.setArg v).link = s.link := rfl
  unfold State.admDeBlock
  rw [setArg_adm, hlink, setArg_setAdm, setArg_opDeBlock, setArg_afterDeBlock]
  split
  · rfl
  split <;> rfl

theorem setArg_clearLinkCounter (k : LinkKind) (sel : Bool) :
    (s.setArg v).clearLinkCounter k sel = (s.clearLinkCounter k sel).setArg v := by
  cases sel <;> rfl

/-- Ending a command writes RESULT and RDATA and keeps ARG. -/
theorem setArg_finish (r : CmdResult) : (s.setArg v).finish (r.setArg v) = (s.finish r).setArg v := by
  cases r <;> rfl

theorem setArg_runCommand (r : CmdResult) :
    runCommand (s.setArg v) (r.setArg v) = .next ((s.finish r).setArg v) :=
  congrArg _ (setArg_finish s v r)

/-- A check that passes or fails whatever ARG holds. -/
theorem CmdResult.setArg_guard (c : Bool) (code : ResultCode) (r : CmdResult) :
    CmdResult.setArg (if c then .error code else r) v = if c then .error code else r.setArg v := by
  cases c <;> rfl

theorem CmdResult.setArg_map (r : Except ResultCode State) :
    (r.map (State.setArg · v)).map (fun t => (t, (0 : Word))) = CmdResult.setArg (r.map fun t => (t, 0)) v := by
  cases r <;> rfl

/-- What a command that does not use ARG gives does not depend on ARG, and ARG stays as it was. -/
theorem exec_setArg (i : Instr) (hi : usesArg i = false) :
    ∃ r, exec i s = runCommand s r ∧ exec i (s.setArg v) = runCommand (s.setArg v) (r.setArg v) := by
  cases i with
  | setactval f | setactmode f | setsaten f | setlinkthres f | setsatthres f => cases hi
  | nop f =>
    refine ⟨_, rfl, ?_⟩
    rw [CmdResult.setArg_guard]
    rfl
  | linkenable f =>
    refine ⟨_, rfl, ?_⟩
    rw [CmdResult.setArg_guard, ← CmdResult.setArg_map, ← setArg_admDeBlock]
    rfl
  | linkdisable f =>
    refine ⟨_, rfl, ?_⟩
    rw [CmdResult.setArg_guard, ← CmdResult.setArg_map, ← setArg_admBlock]
    rfl
  | satenable f =>
    refine ⟨_, rfl, ?_⟩
    rw [CmdResult.setArg_guard, CmdResult.setArg_guard, ← CmdResult.setArg_map, ← setArg_admDeBlock]
    rfl
  | satdisable f =>
    refine ⟨_, rfl, ?_⟩
    rw [CmdResult.setArg_guard, CmdResult.setArg_guard, ← CmdResult.setArg_map, ← setArg_admBlock]
    rfl
  | selftest f =>
    refine ⟨_, rfl, ?_⟩
    rw [CmdResult.setArg_guard, CmdResult.setArg_guard, ← CmdResult.setArg_map, ← setArg_selftestStart]
    rfl
  | rdsatstate f | consumestatus f =>
    refine ⟨_, rfl, ?_⟩
    rw [CmdResult.setArg_guard, CmdResult.setArg_guard]
    rfl
  | rdlinkcnt f =>
    refine ⟨_, rfl, ?_⟩
    rw [CmdResult.setArg_guard]
    simp only [exec, execRdLinkCnt, setArg_clearLinkCounter]
    cases linkKindOf f.kind with
    | none => rfl
    | some k => cases f.rst <;> rfl
  | rdsatcnt f =>
    refine ⟨_, rfl, ?_⟩
    have hpresent : (s.setArg v).satPresent f.sat.toNat = s.satPresent f.sat.toNat := rfl
    rw [CmdResult.setArg_guard]
    simp only [exec, execRdSatCnt, hpresent]
    cases satCounterOf f.kind f.sel with
    | none => rfl
    | some c =>
      simp only [CmdResult.setArg_guard]
      cases f.rst <;> rfl
  | illegal0f f | illegal1x lo f | illegal2x lo f | illegal4x lo f | illegal8x lo f => exact ⟨_, rfl, rfl⟩

end IgnoredArg

end Sys2Proof.Machine

section UnusedBitStatement

open Sys2Proof Sys2Proof.Machine

/-- Settles O6: the three checks of R93, each from the rule it is about. -/
theorem unusedBitsAreChecked : Obligations.UnusedBitsAreChecked := by
  refine ⟨exec_of_unused_field, fun s f => ⟨exec_setactval_of_arg f, exec_setactmode_of_arg f, exec_setsaten_of_arg f⟩,
    fun s i v hi => ?_⟩
  obtain ⟨r, h, harg⟩ := exec_setArg s v i hi
  exact ⟨s.finish r, h, harg.trans (setArg_runCommand s v r)⟩

end UnusedBitStatement

/-! # The event queue (spec/30_encoding.md R104, spec/60_exceptions.md R286 to R289)

First the words of the events and what `emit` does. Next `OnlyEmits`: from one state to another the queue changed by
the emission of events alone. Every operation of the scan engine and of the commands is of that kind; only a register
access and a reset treat the queue otherwise. The invariant of the queue and the lasting overflow flag follow from
that. -/

namespace Sys2Proof.Machine

section EventWords

/-! ## The words of the events (R103 to R106) -/

theorem eventWord_toNat (type : BitVec 4) (id : BitVec 8) (payload : BitVec 20) :
    (eventWord type id payload).toNat = type.toNat * 0x10000000 + id.toNat * 0x100000 + payload.toNat := by
  have hid := id.isLt
  have hpayload := payload.isLt
  rw [eventWord, BitVec.toNat_append, BitVec.toNat_append, ← Nat.shiftLeft_add_eq_or_of_lt hpayload,
    ← Nat.shiftLeft_add_eq_or_of_lt hid, Nat.shiftLeft_eq, Nat.shiftLeft_eq]
  omega

theorem eventType_eventWord (type : BitVec 4) (id : BitVec 8) (payload : BitVec 20) :
    eventType (eventWord type id payload) = type.toNat := by
  have htype := type.isLt
  have hid := id.isLt
  have hpayload := payload.isLt
  rw [eventType, BitVec.extractLsb'_toNat, eventWord_toNat, Nat.shiftRight_eq_div_pow]
  omega

/-- A payload of at most 20 bits stands in the word as it is. -/
theorem payload_toNat {n : Nat} (x : BitVec n) (hn : n ≤ 20) : (x.setWidth 20).toNat = x.toNat :=
  BitVec.toNat_setWidth_of_le hn

theorem satId_toNat {a : Nat} (h : a < 255) : (BitVec.ofNat 8 a).toNat = a := by
  rw [BitVec.toNat_ofNat]
  omega

theorem satExists_word {a : Nat} (h : a < 255) (x : Bool) :
    (Event.satExists a x).word.toNat = 0x10000000 + a * 0x100000 + if x then 1 else 0 := by
  rw [Event.word, eventWord_toNat, satId_toNat h, payload_toNat _ (by omega)]
  cases x <;> rfl

theorem opState_sat_word {a : Nat} (h : a < 255) (op : OpState) :
    (Event.opState (.sat a) op).word.toNat = 0x20000000 + a * 0x100000 + op.toNat := by
  rw [Event.word, eventWord_toNat, Entity.id, satId_toNat h, payload_toNat _ (by omega)]
  rfl

theorem opState_link_word (op : OpState) : (Event.opState .link op).word.toNat = 0x2FF00000 + op.toNat := by
  rw [Event.word, eventWord_toNat, payload_toNat _ (by omega)]
  rfl

theorem sensorRaw_word {a : Nat} (h : a < 255) (value : Byte) :
    (Event.sensorRaw a value).word.toNat = 0x30000000 + a * 0x100000 + value.toNat := by
  rw [Event.word, eventWord_toNat, satId_toNat h, payload_toNat _ (by omega)]
  rfl

theorem statusNotify_word {a : Nat} (h : a < 255) (status : BitVec 6) :
    (Event.statusNotify a status).word.toNat = 0x40000000 + a * 0x100000 + status.toNat := by
  rw [Event.word, eventWord_toNat, satId_toNat h, payload_toNat _ (by omega)]
  rfl

theorem selftestResult_word {a : Nat} (h : a < 255) (code : SelftestCode) :
    (Event.selftestResult a code).word.toNat = 0x50000000 + a * 0x100000 + code.code.toNat := by
  rw [Event.word, eventWord_toNat, satId_toNat h, payload_toNat _ (by omega)]
  rfl

theorem discResult_word (code : DiscoveryCode) (count : BitVec 8) :
    (Event.discResult code count).word.toNat = 0x6FF00000 + count.toNat * 0x100 + code.code.toNat := by
  rw [Event.word, eventWord_toNat, payload_toNat _ (by omega), BitVec.toNat_append,
    ← Nat.shiftLeft_add_eq_or_of_lt code.code.isLt, Nat.shiftLeft_eq, ← Nat.add_assoc]
  rfl

/-- Every event is of one of the six types. -/
theorem event_type (e : Event) : 1 ≤ eventType e.word ∧ eventType e.word ≤ 6 := by
  cases e <;> rw [Event.word, eventType_eventWord] <;> decide

/-- The status payload, flag by flag (R103). -/
theorem status_bits (st : Status) :
    st.bits.getLsbD 0 = st.watchdogError ∧ st.bits.getLsbD 1 = st.remoteCrcError
      ∧ st.bits.getLsbD 2 = st.rxCrcError ∧ st.bits.getLsbD 3 = st.rxSymbolError
      ∧ st.bits.getLsbD 4 = st.rxDataSizeError ∧ st.bits.getLsbD 5 = st.dirty := by
  obtain ⟨wd, rem, crc, sym, size, dirty⟩ := st
  revert wd rem crc sym size dirty
  decide

end EventWords

section Emission

variable {s t u : State}

/-! ## Emitting (R286, R288, R289) -/

theorem evqFull_iff : s.evqFull = true ↔ ∃ d, s.cfg.evqDepth = some d ∧ d ≤ s.evq.length := by
  unfold State.evqFull
  cases s.cfg.evqDepth <;> simp

theorem emit_of_room (e : Event) (h : ∀ d, s.cfg.evqDepth = some d → s.evq.length < d) :
    s.emit e = { s with evq := s.evq ++ [e.word] } := by
  have hroom : ¬ s.evqFull = true := fun hfull => by
    obtain ⟨d, hd, hle⟩ := evqFull_iff.mp hfull
    exact Nat.not_lt.mpr hle (h d hd)
  rw [State.emit, if_neg hroom]
  rfl

theorem emit_of_full (e : Event) {d : Nat} (hd : s.cfg.evqDepth = some d) (hle : d ≤ s.evq.length) :
    s.emit e = { s with evOvf := true } := by
  rw [State.emit, if_pos (evqFull_iff.mpr ⟨d, hd, hle⟩)]
  rfl

theorem irq_iff : s.irq = true ↔ s.evq ≠ [] := by
  simp [State.irq]

/-! ## The invariant of the queue under emission -/

/-- The invariant reads EVQ_DEPTH and the queue alone. -/
theorem queueSound_congr (hc : t.cfg = s.cfg) (hq : t.evq = s.evq) (h : s.QueueSound) : t.QueueSound := by
  obtain ⟨hbounded, htypes⟩ := h
  exact ⟨by rwa [hc, hq], by rwa [hq]⟩

theorem emit_queueSound (e : Event) (h : s.QueueSound) : (s.emit e).QueueSound := by
  obtain ⟨hbounded, htypes⟩ := h
  rcases emit_spec s e with ⟨hq, -, hroom⟩ | ⟨hq, -, -⟩
  · refine ⟨fun d hd => ?_, fun w hw => ?_⟩
    · rw [emit_cfg] at hd
      rw [hq, List.length_append, List.length_singleton]
      by_contra hlt
      have hfull := evqFull_iff.mpr ⟨d, hd, by omega⟩
      rw [hroom] at hfull
      cases hfull
    · rw [hq, List.mem_append, List.mem_singleton] at hw
      rcases hw with hw | rfl
      · exact htypes w hw
      · exact event_type e
  · exact queueSound_congr (emit_cfg s e) hq ⟨hbounded, htypes⟩

theorem emitAll_queueSound (l : List Event) (h : s.QueueSound) : (s.emitAll l).QueueSound := by
  induction l generalizing s with
  | nil => exact h
  | cons e l ih => exact ih (emit_queueSound e h)

/-- An emission may set the overflow flag; none clears it. -/
theorem emitAll_evOvf (l : List Event) (h : s.evOvf = true) : (s.emitAll l).evOvf = true := by
  induction l generalizing s with
  | nil => exact h
  | cons e l ih =>
    refine ih ?_
    rcases emit_spec s e with ⟨-, ho, -⟩ | ⟨-, ho, -⟩
    · rw [ho, h]
    · exact ho

/-! ## Changes of the queue by emission alone -/

/-- From `s` to `t` the parameters stay, and the queue and its overflow flag change by emitted events alone. -/
structure OnlyEmits (s t : State) : Prop where
  cfg : t.cfg = s.cfg
  events : ∃ l, t.queue = (s.emitAll l).queue

/-- The case of no event. -/
theorem OnlyEmits.silent (hc : t.cfg = s.cfg := by simp) (hq : t.evq = s.evq := by simp)
    (ho : t.evOvf = s.evOvf := by simp) : OnlyEmits s t :=
  ⟨hc, [], Prod.ext hq ho⟩

theorem OnlyEmits.refl (s : State) : OnlyEmits s s := .silent

theorem OnlyEmits.trans (h : OnlyEmits s t) (h' : OnlyEmits t u) : OnlyEmits s u := by
  obtain ⟨hc, l, hl⟩ := h
  obtain ⟨hc', l', hl'⟩ := h'
  refine ⟨hc'.trans hc, l ++ l', ?_⟩
  rw [hl', emitAll_append]
  exact emitAll_queue_congr (by rw [emitAll_cfg, hc]) hl l'

theorem OnlyEmits.queueSound (h : OnlyEmits s t) (hs : s.QueueSound) : t.QueueSound := by
  obtain ⟨hc, l, hl⟩ := h
  exact queueSound_congr (by rw [emitAll_cfg, hc]) (congrArg Prod.fst hl) (emitAll_queueSound l hs)

theorem OnlyEmits.evOvf (h : OnlyEmits s t) (hs : s.evOvf = true) : t.evOvf = true := by
  obtain ⟨-, l, hl⟩ := h
  exact (congrArg Prod.snd hl).trans (emitAll_evOvf l hs)

theorem OnlyEmits.ite {c : Prop} [Decidable c] (ht : OnlyEmits s t) (hu : OnlyEmits s u) :
    OnlyEmits s (if c then t else u) := by
  split
  · exact ht
  · exact hu

/-! Each operation below keeps `OnlyEmits s` from the state it runs on to the state it gives. -/

section EmittingOperations

variable (h : OnlyEmits s t)
include h

theorem OnlyEmits.emit (e : Event) : OnlyEmits s (t.emit e) := h.trans ⟨emit_cfg t e, [e], rfl⟩

theorem OnlyEmits.forEachSat {g : Nat → State → State} (hg : ∀ a u, OnlyEmits s u → OnlyEmits s (g a u)) :
    OnlyEmits s (t.forEachSat g) := forEachSat_induct t (fun a u hu _ => hg a u hu) h

theorem OnlyEmits.foldl {g : State → Nat → State} (l : List Nat) (hg : ∀ a u, OnlyEmits s u → OnlyEmits s (g u a)) :
    OnlyEmits s (l.foldl g t) := foldl_induct t l (fun a _ u hu => hg a u hu) h

theorem OnlyEmits.setPhase (p : ScanPhase) : OnlyEmits s (t.setPhase p) := h.trans .silent
theorem OnlyEmits.setLink (l : LinkRegs) : OnlyEmits s (t.setLink l) := h.trans .silent
theorem OnlyEmits.setSlots (x : List Slot) : OnlyEmits s (t.setSlots x) := h.trans .silent
theorem OnlyEmits.setSats (x : List Sat) : OnlyEmits s (t.setSats x) := h.trans .silent
theorem OnlyEmits.setDisc (d : DiscRegs) : OnlyEmits s (t.setDisc d) := h.trans .silent
theorem OnlyEmits.setReest (r : ReestRegs) : OnlyEmits s (t.setReest r) := h.trans .silent
theorem OnlyEmits.setCyc (c : CycleRegs) : OnlyEmits s (t.setCyc c) := h.trans .silent
theorem OnlyEmits.setTime (x : TimeRegs) : OnlyEmits s (t.setTime x) := h.trans .silent
theorem OnlyEmits.setLine (l : LineRegs) : OnlyEmits s (t.setLine l) := h.trans .silent
theorem OnlyEmits.modifySlot (i : Nat) (g : Slot → Slot) : OnlyEmits s (t.modifySlot i g) := h.trans .silent
theorem OnlyEmits.modifySat (a : Nat) (g : Sat → Sat) : OnlyEmits s (t.modifySat a g) := h.trans .silent
theorem OnlyEmits.writeTx (i : Nat) (g : Slot → Slot) : OnlyEmits s (t.writeTx i g) := h.trans .silent
theorem OnlyEmits.setTxReq (i : Nat) (k : TestKind) (v : Bool) : OnlyEmits s (t.setTxReq i k v) := h.trans .silent
theorem OnlyEmits.setSatOp (a : Nat) (op : OpState) : OnlyEmits s (t.setSatOp a op) := h.trans .silent
theorem OnlyEmits.setOp (e : Entity) (op : OpState) : OnlyEmits s (t.setOp e op) := h.trans .silent
theorem OnlyEmits.setAdm (e : Entity) (x : Adm) : OnlyEmits s (t.setAdm e x) := h.trans .silent
theorem OnlyEmits.resetCounters (e : Entity) : OnlyEmits s (t.resetCounters e) := h.trans .silent
theorem OnlyEmits.countLink (k : LinkKind) : OnlyEmits s (t.countLink k) := h.trans .silent
theorem OnlyEmits.countSat (a : Nat) (k : SatKind) : OnlyEmits s (t.countSat a k) := h.trans .silent
theorem OnlyEmits.tick : OnlyEmits s t.tick := h.trans .silent
theorem OnlyEmits.busAdvance : OnlyEmits s t.busAdvance := h.trans .silent
theorem OnlyEmits.reestArm : OnlyEmits s t.reestArm := h.trans .silent

/-! ## The operational state machine and the self-test start -/

theorem OnlyEmits.blockOne (e : Entity) (flag : OpState) : OnlyEmits s (t.blockOne e flag) :=
  (h.setOp e _).emit _

theorem OnlyEmits.opBlock (e : Entity) (flag : OpState) : OnlyEmits s (t.opBlock e flag) := by
  cases e with
  | sat a => exact h.blockOne (.sat a) flag
  | link =>
    have hcascade := h.forEachSat fun a _ hu => hu.blockOne (.sat a) opControlBlocked
    have hblocked := (OnlyEmits.ite (c := t.link.op = 0) hcascade h).blockOne .link flag
    exact .ite hblocked.reestArm hblocked

theorem OnlyEmits.deblockSat (a : Nat) (flag : OpState) : OnlyEmits s (t.deblockSat a flag) :=
  OnlyEmits.emit (.ite ((h.setSatOp a _).resetCounters _) (h.setSatOp a _)) _

theorem OnlyEmits.opDeBlock (e : Entity) (flag : OpState) : OnlyEmits s (t.opDeBlock e flag) := by
  cases e with
  | sat a => exact h.deblockSat a flag
  | link =>
    have hlink := h.setLink { t.link with op := t.link.op &&& ~~~flag }
    have hcascade := hlink.forEachSat fun a _ hu => hu.deblockSat a opControlBlocked
    exact OnlyEmits.emit (.ite (hcascade.resetCounters .link) hlink) _

theorem OnlyEmits.selftestStart {a : Nat} {implicit : Bool} (hu : t.selftestStart a implicit = .ok u) :
    OnlyEmits s u := by
  obtain ⟨-, -, rfl⟩ := selftestStart_ok hu
  exact (h.setTxReq a .srv true).modifySat a _

theorem OnlyEmits.afterDeBlock (e : Entity) : OnlyEmits s (t.afterDeBlock e) := by
  cases e with
  | link => exact h.setDisc _
  | sat a =>
    simp only [State.afterDeBlock]
    split
    · exact h.selftestStart ‹_›
    · exact h

/-! ## Discovery -/

theorem OnlyEmits.abortSelftest (a : Nat) : OnlyEmits s (t.abortSelftest a) := .ite h ((h.modifySat a _).emit _)

theorem OnlyEmits.destroySat (a : Nat) : OnlyEmits s (t.destroySat a) := ((h.abortSelftest a).emit _).modifySat a _

theorem OnlyEmits.discoveryStep1 : OnlyEmits s t.discoveryStep1 :=
  ((h.opBlock .link opInit).forEachSat fun a _ hu => hu.destroySat a).setSlots _

theorem OnlyEmits.discoveryStep2 : OnlyEmits s t.discoveryStep2 := ((h.setLink _).setSlots _).setDisc _

theorem OnlyEmits.discoveryStart : OnlyEmits s t.discoveryStart :=
  .ite (h.setDisc _).discoveryStep1.discoveryStep2 h

theorem OnlyEmits.probeAbort : OnlyEmits s t.probeAbort :=
  (((((h.setSlots _).setLink _).setDisc _).opBlock .link opFail).opDeBlock .link opInit).emit _

theorem OnlyEmits.probeEvaluate : OnlyEmits s t.probeEvaluate := .ite h.probeAbort ((h.setSlots _).setDisc _)

theorem OnlyEmits.createSat (a : Nat) : OnlyEmits s (t.createSat a) := ((h.setSatOp a _).modifySat a _).emit _

theorem OnlyEmits.discoveryFinish : OnlyEmits s t.discoveryFinish := by
  have hcreated := fun slots link =>
    ((h.setSlots slots).setLink link).foldl (List.range t.disc.result.toNat) fun a _ hu => hu.createSat a
  exact .ite ((((hcreated _ _).setDisc _).opDeBlock .link (opFail ||| opInit)).emit _)
    (((((hcreated _ _).setDisc _).opBlock .link opFail).opDeBlock .link opInit).emit _)

theorem OnlyEmits.discoveryStep : OnlyEmits s t.discoveryStep := by
  have hcounted := h.setDisc { t.disc with cnt := t.disc.cnt - 1 }
  unfold State.discoveryStep
  split
  · exact h
  · exact .ite hcounted.probeEvaluate hcounted
  · exact .ite hcounted.discoveryFinish hcounted

/-! ## The self-test sequencer -/

theorem OnlyEmits.selftestFinish (a : Nat) (code : SelftestCode) : OnlyEmits s (t.selftestFinish a code) :=
  .ite ((((h.writeTx a _).modifySat a _).emit _).opBlock (.sat a) opFail) (((h.writeTx a _).modifySat a _).emit _)

theorem OnlyEmits.selftestAdvance (a : Nat) (done next : TestKind) (phase : StPhase) :
    OnlyEmits s (t.selftestAdvance a done next phase) :=
  ((h.setTxReq a done false).setTxReq a next true).modifySat a _

theorem OnlyEmits.selftestPhaseEnd (a : Nat) : OnlyEmits s (t.selftestPhaseEnd a) := by
  unfold State.selftestPhaseEnd
  split
  · exact h
  · exact .ite (h.selftestFinish a _) (h.selftestAdvance a _ _ _)
  · exact .ite (h.selftestFinish a _) (h.selftestAdvance a _ _ _)
  · exact .ite (h.selftestFinish a _) (h.selftestFinish a _)

theorem OnlyEmits.selftestStep (a : Nat) : OnlyEmits s (t.selftestStep a) :=
  .ite h (.ite ((h.modifySat a _).selftestPhaseEnd a) (h.modifySat a _))

/-! ## PROCESS -/

theorem OnlyEmits.latchStatus (i : Nat) (flags : Status) : OnlyEmits s (t.latchStatus i flags) := h.modifySlot i _

theorem OnlyEmits.notifyStatus (i : Nat) : OnlyEmits s (t.notifyStatus i) := .ite (h.emit _) h

theorem OnlyEmits.processBadSlot (i : Nat) : OnlyEmits s (t.processBadSlot i) := (h.latchStatus i _).notifyStatus i

theorem OnlyEmits.processBad : OnlyEmits s t.processBad := by
  have hsym : OnlyEmits s (if t.cyc.sym then t.countLink .sym else t) := .ite (h.countLink _) h
  exact (OnlyEmits.ite (hsym.countLink _) hsym).foldl _ fun i _ hu => hu.processBadSlot i

theorem OnlyEmits.routeOne (a : Nat) (k : SatKind) : OnlyEmits s (t.routeOne a k) :=
  .ite (h.modifySat a _) (h.countSat a k)

theorem OnlyEmits.route (a : Nat) (eCrc eRem eWd : Bool) : OnlyEmits s (t.route a eCrc eRem eWd) := by
  have hcrc : OnlyEmits s (if eCrc then t.routeOne a .rxcrc else t) := .ite (h.routeOne a _) h
  have hrem := OnlyEmits.ite (c := eRem = true) (hcrc.routeOne a .remcrc) hcrc
  exact .ite (hrem.routeOne a .wd) hrem

theorem OnlyEmits.badStatus (i : Nat) (eCrc eRem eWd : Bool) : OnlyEmits s (t.badStatus i eCrc eRem eWd) :=
  .ite (((h.latchStatus i _).route i _ _ _).notifyStatus i) (h.latchStatus i _)

theorem OnlyEmits.goodStatus (i : Nat) (changed : Bool) (sensor : Byte) :
    OnlyEmits s (t.goodStatus i changed sensor) := .ite (h.emit _) h

theorem OnlyEmits.processSlot (i : Nat) : OnlyEmits s (t.processSlot i) :=
  .ite ((h.modifySlot i _).badStatus i _ _ _) ((h.modifySlot i _).goodStatus i _ _)

/-! ## BUDGET and SEQ -/

theorem OnlyEmits.linkHighCheck (sum : Nat) : OnlyEmits s (t.linkHighCheck sum) := .ite (h.opBlock _ _) h

theorem OnlyEmits.satHighCheck (a sum : Nat) : OnlyEmits s (t.satHighCheck a sum) := .ite (h.opBlock _ _) h

theorem OnlyEmits.linkLowCheck (sum : Nat) : OnlyEmits s (t.linkLowCheck sum) := .ite (h.opDeBlock _ _) h

theorem OnlyEmits.satLowCheck (a sum : Nat) : OnlyEmits s (t.satLowCheck a sum) := .ite (h.opDeBlock _ _) h

theorem OnlyEmits.windowReset (t5 : Nat) : OnlyEmits s (t.windowReset t5) := ((h.setLink _).setSats _).setTime _

theorem OnlyEmits.reestCheck : OnlyEmits s t.reestCheck := .ite (.ite ((h.setReest _).setDisc _) (h.setReest _)) h

end EmittingOperations

section Agents

variable (s)

/-! ## The micro-steps of the SCAN agent -/

theorem scanWait_onlyEmits : OnlyEmits s s.scanWait :=
  have hticked := (OnlyEmits.refl s).tick
  .ite (hticked.setPhase _) hticked

theorem scanEncode_onlyEmits : OnlyEmits s s.scanEncode :=
  (((OnlyEmits.refl s).discoveryStart.setSlots _).setSlots _).setPhase _

theorem scanTxrx_onlyEmits : OnlyEmits s s.scanTxrx :=
  have hs := OnlyEmits.refl s
  .ite (((hs.setCyc _).setLine _).setPhase _) (((hs.setLine _).busAdvance.setCyc _).setPhase _)

theorem scanProcess_onlyEmits : OnlyEmits s s.scanProcess :=
  have hs := OnlyEmits.refl s
  OnlyEmits.setPhase (.ite hs.processBad (hs.foldl _ fun i _ hu => hu.processSlot i)) _

theorem scanBudget_onlyEmits : OnlyEmits s s.scanBudget := by
  have hread := (OnlyEmits.refl s).tick.setTime { s.tick.time with t5 := s.tick.env.clock }
  have hhigh := (hread.linkHighCheck s.link.sec.sum).forEachSat fun a _ hu => hu.satHighCheck a (s.sat a).sec.sum
  have hlow := (hhigh.linkLowCheck s.link.sec.sum).forEachSat fun a _ hu => hu.satLowCheck a (s.sat a).sec.sum
  exact OnlyEmits.setPhase (.ite (hlow.windowReset _) hhigh) _

theorem scanSeq_onlyEmits : OnlyEmits s s.scanSeq :=
  ((OnlyEmits.refl s).discoveryStep.forEachSat fun a _ hu => hu.selftestStep a).reestCheck.setPhase _

theorem scanTiming_onlyEmits : OnlyEmits s s.scanTiming :=
  have hticked := (OnlyEmits.refl s).tick
  OnlyEmits.setPhase (.ite (hticked.setTime _) ((hticked.countLink _).setTime _)) _

theorem scanStep_onlyEmits : OnlyEmits s s.scanStep := by
  unfold State.scanStep
  split
  · exact scanWait_onlyEmits s
  · exact scanEncode_onlyEmits s
  · exact scanTxrx_onlyEmits s
  · exact scanProcess_onlyEmits s
  · exact scanBudget_onlyEmits s
  · exact scanSeq_onlyEmits s
  · exact scanTiming_onlyEmits s

/-! ## The commands -/

variable {s}

theorem succeeds_onlyEmits {v : Word} (h : Succeeds s t v) : OnlyEmits s t := by
  have hs := OnlyEmits.refl s
  cases h with
  | same => exact hs
  | tx | linkThres | satThres | linkCounters | satCounters | consume => exact .silent
  | linkEnable | satEnable => exact ((hs.setAdm _ _).opDeBlock _ _).afterDeBlock _
  | linkDisable | satDisable => exact (hs.setAdm _ _).opBlock _ _
  | selftest a t _ starts => exact hs.selftestStart starts

theorem exec_onlyEmits {i : Instr} (h : exec i s = .next t) : OnlyEmits s t := by
  rcases exec_spec s i with ⟨c, hraise⟩ | ⟨u, v, hu, hcomplete⟩
  · cases hraise.symm.trans h
    exact .silent
  · cases hcomplete.symm.trans h
    exact (succeeds_onlyEmits hu).trans .silent

end Agents

end Emission

section QueueSteps

variable {s t : State}

/-! ## What else touches the queue: the registers and the reset -/

theorem readRegister_evq (addr : Nat) :
    (s.readRegister addr).evq = if addr = 0x1C then s.evq.tail else s.evq := by
  unfold State.readRegister
  split <;> simp

theorem readRegister_cfg (addr : Nat) : (s.readRegister addr).cfg = s.cfg := by
  unfold State.readRegister
  split <;> simp

theorem readRegister_evOvf (addr : Nat) : (s.readRegister addr).evOvf = s.evOvf := by
  unfold State.readRegister
  split <;> simp

theorem readRegister_queueSound (addr : Nat) (h : s.QueueSound) : (s.readRegister addr).QueueSound := by
  obtain ⟨hbounded, htypes⟩ := h
  have hsub : (s.readRegister addr).evq.Sublist s.evq := by
    rw [readRegister_evq]
    split
    · exact s.evq.tail_sublist
    · exact .refl _
  refine ⟨fun d hd => ?_, fun w hw => htypes w (hsub.subset hw)⟩
  rw [readRegister_cfg] at hd
  exact hsub.length_le.trans (hbounded d hd)

theorem writeRegister_queueSound (addr : Nat) (v : Word) (h : s.QueueSound) : (s.writeRegister addr v).QueueSound := by
  unfold State.writeRegister
  split
  · exact queueSound_congr (s := s) rfl rfl h
  · split
    · exact queueSound_congr (s := s) rfl rfl h
    · exact h
  · exact h

theorem writeRegister_evOvf (addr : Nat) (v : Word) (h : s.evOvf = true) :
    (s.writeRegister addr v).evOvf = true ∨ addr = 0x20 ∧ v.getLsbD 31 = true := by
  unfold State.writeRegister
  split
  · exact .inl h
  · split
    · exact .inr ⟨rfl, ‹_›⟩
    · exact .inl h
  · exact .inl h

theorem hostAccess_evOvf {a : Access} (h : hostAccess a s = .next t) (hovf : s.evOvf = true) :
    t.evOvf = true ∨ ∃ v : Word, a = .write 0x20 4 v ∧ v.getLsbD 31 = true := by
  cases a with
  | read addr width =>
    by_cases hadm : accessAdmitted addr width = true
    · cases (hostAccess_read_of_admitted s hadm).symm.trans h
      exact .inl ((readRegister_evOvf addr).trans hovf)
    · cases (hostAccess_read_of_not_admitted s hadm).symm.trans h
  | write addr width v =>
    by_cases hadm : accessAdmitted addr width = true
    · obtain ⟨rfl, -, -⟩ := accessAdmitted_iff.mp hadm
      by_cases hcmd : addr = 0x00
      · subst hcmd
        rw [hostAccess_write_cmd] at h
        exact .inl ((exec_onlyEmits h).evOvf hovf)
      · cases (hostAccess_write_of_admitted s v hadm hcmd).symm.trans h
        rcases writeRegister_evOvf addr v hovf with hkept | ⟨rfl, hbit⟩
        · exact .inl hkept
        · exact .inr ⟨v, rfl, hbit⟩
    · cases (hostAccess_write_of_not_admitted s v hadm).symm.trans h

/-- R288: only a write of 1 to bit 31 of EVSTAT, or a reset, clears the overflow flag. -/
theorem step_evOvf (h : step s = .next t) (hovf : s.evOvf = true) :
    t.evOvf = true ∨ s.input = .reset ∨ ∃ v : Word, s.input = .host (.write 0x20 4 v) ∧ v.getLsbD 31 = true := by
  have htaken : s.inputTaken.evOvf = true := (inputTaken_evOvf s).trans hovf
  cases hi : s.input with
  | scan =>
    cases (step_scan hi).symm.trans h
    exact .inl ((scanStep_onlyEmits _).evOvf htaken)
  | reset => exact .inr (.inl rfl)
  | host a =>
    rw [step_access hi] at h
    rcases hostAccess_evOvf h htaken with hkept | ⟨v, rfl, hbit⟩
    · exact .inl hkept
    · exact .inr (.inr ⟨v, rfl, hbit⟩)

theorem resetInput_queueSound (s : State) : s.resetInput.QueueSound :=
  ⟨fun d _ => Nat.zero_le d, fun _ hw => absurd hw List.not_mem_nil⟩

theorem step_queueSound (h : step s = .next t) (hs : s.QueueSound) : t.QueueSound := by
  have htaken : s.inputTaken.QueueSound := queueSound_congr (inputTaken_cfg s) (inputTaken_evq s) hs
  rcases step_cases h with ⟨-, rfl⟩ | ⟨-, rfl⟩ | ⟨addr, rfl⟩ | ⟨addr, v, rfl⟩ | ⟨i, hexec⟩
  · exact (scanStep_onlyEmits _).queueSound htaken
  · exact resetInput_queueSound _
  · exact readRegister_queueSound addr htaken
  · exact writeRegister_queueSound addr v htaken
  · exact (exec_onlyEmits hexec).queueSound htaken

end QueueSteps

end Sys2Proof.Machine

section EventQueueStatement

open Sys2Proof Sys2Proof.Machine

/-- Settles O55: what `emit` does and the words of the events, then the two statements on every step. -/
theorem stepKeepsTheQueueSound : Obligations.StepKeepsTheQueueSound := by
  refine ⟨?emits, fun s l e => ⟨rfl, rfl⟩, ?satWords, opState_link_word, ?discWord, status_bits,
    fun s t h => step_evOvf h, fun s t hs h => step_queueSound h hs⟩
  case emits =>
    intro s e
    exact ⟨emit_of_room e, fun d hd hle => emit_of_full e hd hle, irq_iff⟩
  case satWords =>
    intro a ha
    refine ⟨satExists_word ha, opState_sat_word ha, sensorRaw_word ha, fun st => statusNotify_word ha st.bits,
      fun c => ?_⟩
    rw [selftestResult_word ha]
    cases c <;> rfl
  case discWord =>
    intro c k
    rw [discResult_word]
    cases c <;> rfl

end EventQueueStatement

/-! # Storing the CRC of a frame (spec/40_frame_codec.md R110, R111, R114)

Two facts carry the statement: the CRC reads only the 60 high bits of a frame, and `setCrc` puts those 60 bits over the
CRC. -/

namespace Sys2Proof.Machine

section CrcNibble

open Sys2Proof.Config (CrcForm)

/-- R111: the inverted CRC is the complement of the CRC. -/
theorem crc4_inv (form : CrcForm) (b : FrameWord) : crc4 form b true = ~~~crc4 form b false := rfl

/-- Bit `i` of a frame above the low nibble of byte 7 is bit `i - 4` of the 60 bits it keeps. -/
theorem getLsbD_of_high (b : FrameWord) {i : Nat} (hlow : 4 ≤ i) (hi : i < 64) :
    b.getLsbD i = (b.extractLsb' 4 60).getLsbD (i - 4) := by
  have hrange : i - 4 < 60 := by omega
  have hsum : 4 + (i - 4) = i := by omega
  simp [hrange, hsum]

/-- R110: the CRC takes the bits 63 down to 4 and no bit of the low nibble of byte 7. -/
theorem crcCoveredBits_congr {b d : FrameWord} (h : b.extractLsb' 4 60 = d.extractLsb' 4 60) :
    crcCoveredBits b = crcCoveredBits d := by
  refine List.map_congr_left fun i hi => ?_
  have hi60 : i < 60 := List.mem_range.mp hi
  rw [getLsbD_of_high b (by omega) (by omega), getLsbD_of_high d (by omega) (by omega), h]

theorem crc4_congr (form : CrcForm) {b d : FrameWord} (h : b.extractLsb' 4 60 = d.extractLsb' 4 60) (inv : Bool) :
    crc4 form b inv = crc4 form d inv := by
  simp only [crc4, crcCoveredBits_congr h]

/-- The mask of `setCrc` keeps the bits 4 to 63. -/
theorem getLsbD_highMask {i : Nat} (hi : i < 64) : (~~~0xF#64).getLsbD i = decide (4 ≤ i) := by
  revert i
  decide

/-- R114: the stored frame is the 60 high bits of the old one over the CRC. -/
theorem setCrc_eq_append (form : CrcForm) (b : FrameWord) (inv : Bool) :
    setCrc form b inv = b.extractLsb' 4 60 ++ crc4 form b inv := by
  refine BitVec.eq_of_getLsbD_eq fun i hi => ?_
  rw [setCrc, BitVec.getLsbD_or, BitVec.getLsbD_and, getLsbD_highMask hi, BitVec.getLsbD_setWidth,
    BitVec.getLsbD_append]
  by_cases hlow : i < 4
  · simp [hlow, hi]
  · have hhigh : 4 ≤ i := Nat.not_lt.mp hlow
    rw [if_neg hlow, ← getLsbD_of_high b hhigh hi, BitVec.getLsbD_of_ge _ i hhigh]
    simp [hhigh]

theorem setCrc_low (form : CrcForm) (b : FrameWord) (inv : Bool) :
    (setCrc form b inv).extractLsb' 0 4 = crc4 form b inv := by
  rw [setCrc_eq_append, BitVec.extractLsb'_append_eq_right]

theorem setCrc_high (form : CrcForm) (b : FrameWord) (inv : Bool) :
    (setCrc form b inv).extractLsb' 4 60 = b.extractLsb' 4 60 := by
  rw [setCrc_eq_append, BitVec.extractLsb'_append_eq_left]

/-- `setCrc` reads what `crc4` reads, so the old value of the low nibble is lost. -/
theorem setCrc_congr (form : CrcForm) {b d : FrameWord} (h : b.extractLsb' 4 60 = d.extractLsb' 4 60) (inv : Bool) :
    setCrc form b inv = setCrc form d inv := by
  rw [setCrc_eq_append, setCrc_eq_append, h, crc4_congr form h]

end CrcNibble

end Sys2Proof.Machine

section CrcStatement

open Sys2Proof Sys2Proof.Machine

/-- Settles O29: the stored frame is its 60 high bits over the CRC, and the CRC reads only those bits. -/
theorem crcGoesToTheLowNibble : Obligations.CrcGoesToTheLowNibble := by
  intro form b inv n
  have hhigh : (b.extractLsb' 4 60 ++ n).extractLsb' 4 60 = b.extractLsb' 4 60 := BitVec.extractLsb'_append_eq_left
  exact ⟨crc4_inv form b, setCrc_low form b inv, setCrc_high form b inv, setCrc_congr form hhigh inv⟩

end CrcStatement

/-! # What the receive decoder reads of a burst (spec/41_bit_transport.md R134 to R138, R140)

The decoding of the bits goes through the two durations of each pulse alone, and the framing check through the first
space's level alone. So two bursts that agree in these get one answer. -/

namespace Sys2Proof

/-- All that the decoding of the bits reads of a pulse: its high time and its low time. -/
def Pulse.durations (x : Pulse) : Nat × Nat := (x.markTicks, x.spaceTicks)

theorem Pulse.durations_eq_iff {x y : Pulse} :
    x.durations = y.durations ↔ x.markTicks = y.markTicks ∧ x.spaceTicks = y.spaceTicks :=
  Prod.mk_inj

end Sys2Proof

namespace Sys2Proof.Machine

section PulseLevels

open Sys2Proof.Config (Params)

/-- R136 and R138: the period check reads no level. -/
theorem periodOk_congr (p : Params) {x y : Pulse} (h : x.durations = y.durations) : periodOk p x = periodOk p y := by
  obtain ⟨hmark, hspace⟩ := Pulse.durations_eq_iff.mp h
  simp only [periodOk, hmark, hspace]

/-- R138: one pulse after another, the bits depend on the durations alone. -/
theorem depulseBits_congr (p : Params) {xs ys : List Pulse} (h : xs.map Pulse.durations = ys.map Pulse.durations) :
    depulseBits p xs = depulseBits p ys := by
  induction xs generalizing ys with
  | nil => rw [List.map_eq_nil_iff.mp h.symm]
  | cons x xs ih =>
    obtain ⟨y, ys, rfl, hy, hys⟩ := List.map_eq_cons_iff.mp h.symm
    have hmark : x.markTicks = y.markTicks := (Pulse.durations_eq_iff.mp hy.symm).1
    have hlast : xs.isEmpty = ys.isEmpty := by rw [← List.isEmpty_map (f := Pulse.durations), ← hys, List.isEmpty_map]
    simp only [depulseBits, hmark, hlast, periodOk_congr p hy.symm, ih hys.symm]

/-- What `depulse` reads: whether the framing check fails, and the durations. -/
theorem depulse_congr (p : Params) {xs ys : List Pulse} (hframe : framingError p xs = framingError p ys)
    (h : xs.map Pulse.durations = ys.map Pulse.durations) (n : Nat) :
    depulse p (some xs) n = depulse p (some ys) n := by
  simp only [depulse, Option.getD_some, hframe, depulseBits_congr p h]

/-- R140: no answer is a burst of no pulses. -/
theorem depulse_none (p : Params) (n : Nat) : depulse p none n = depulse p (some []) n := rfl

/-- R141: a burst of no pulses passes every check but that of the size. -/
theorem depulse_nil (p : Params) {n : Nat} (hn : 0 < n) : depulse p (some []) n = .sizeError := by
  have hsize : ([] : List Bool).length ≠ n := hn.ne
  simp only [depulse, Option.getD_some, framingError, depulseBits_nil, Bool.false_eq_true, if_false, if_neg hsize]

end PulseLevels

end Sys2Proof.Machine

section PulseLevelStatement

open Sys2Proof Sys2Proof.Machine

/-- Settles O33: bursts that agree in their durations and in the first space's level get one answer, and no answer is
the empty burst. -/
theorem levelsAreCheckedOnce : Obligations.LevelsAreCheckedOnce := by
  refine ⟨fun p x xs ys m n h => ?_, fun p n => ⟨depulse_none p n, fun hn => ?_⟩⟩
  · have hdur : (x :: xs).map Pulse.durations = ({ x with markLevel := m } :: ys).map Pulse.durations :=
      congrArg (x.durations :: ·) h
    have hframe : framingError p (x :: xs) = framingError p ({ x with markLevel := m } :: ys) := rfl
    exact depulse_congr p hframe hdur n
  · rw [depulse_none, depulse_nil p hn]

end PulseLevelStatement

/-! # The micro-steps PROCESS, SEQ and TIMING: what they share

Which micro-step is made, and the frames of the operations that they are made of, each as one equation between
states. -/

namespace Sys2Proof.Machine

section MicroSteps

variable {s : State} (hinput : s.input = .scan)
include hinput

theorem step_process (hphase : s.scanPhase = .process) : step s = .next s.inputTaken.scanProcess := by
  rw [step_scan hinput, State.scanStep, inputTaken_scanPhase, hphase]

theorem step_seq (hphase : s.scanPhase = .seq) : step s = .next s.inputTaken.scanSeq := by
  rw [step_scan hinput, State.scanStep, inputTaken_scanPhase, hphase]

theorem step_timing (hphase : s.scanPhase = .timing) : step s = .next s.inputTaken.scanTiming := by
  rw [step_scan hinput, State.scanStep, inputTaken_scanPhase, hphase]

end MicroSteps

section Frames

variable (s : State)

theorem inputTaken_frame (e : Env) : { s.inputTaken with env := e } = { s with env := e } := by
  unfold State.inputTaken
  split <;> rfl

theorem tick_frame (e : Env) : { s.tick with env := e } = { s with env := e } := by
  unfold State.tick
  split <;> rfl

theorem emit_frame (e : Event) (q : List Word) (o : Bool) :
    { s.emit e with evq := q, evOvf := o } = { s with evq := q, evOvf := o } := by
  unfold State.emit
  split <;> rfl

end Frames

end Sys2Proof.Machine

/-! # Where an error is counted (spec/42_scan_engine.md R160, R161, R163)

`route` touches the counters of one satellite and those of the Link and nothing else, and what it does to each is a
function of that record alone: `Sat.countErrors` and `LinkRegs.countErrors`. `route_sat` and `route_link` tie the two
to the model; the statement on the counters is then about the two functions. -/

namespace Sys2Proof.Machine

section StatusLatch

variable (st flags : Status)

theorem latch_of_dirty (h : st.dirty = true) :
    st.latch flags =
      ⟨st.watchdogError || flags.watchdogError, st.remoteCrcError || flags.remoteCrcError,
        st.rxCrcError || flags.rxCrcError, st.rxSymbolError || flags.rxSymbolError,
        st.rxDataSizeError || flags.rxDataSizeError, true⟩ := by
  simp only [Status.latch, h, Bool.true_and]

theorem latch_of_clean (h : st.dirty = false) : st.latch flags = { flags with dirty := true } := by
  simp only [Status.latch, h, Bool.false_and, Bool.false_or]

end StatusLatch

section ErrorCounting

/-! ## One error -/

theorem countLink_link (s : State) (k : LinkKind) :
    (s.countLink k).link = { s.link with cum := s.link.cum.inc k, sec := s.link.sec.inc k } := rfl

/-- What one possible error of kind `k` makes of a satellite: `error` says whether there is one, `asTest` whether a
running test explains it. -/
def Sat.countError (x : Sat) (k : SatKind) (error asTest : Bool) : Sat :=
  { x with
    cum := if error && !asTest then x.cum.inc k else x.cum
    sec := if error && !asTest then x.sec.inc k else x.sec
    test := if error && asTest then x.test.inc k.testCounter else x.test }

/-- What it makes of the Link. -/
def LinkRegs.countError (l : LinkRegs) (k : SatKind) (error asTest : Bool) : LinkRegs :=
  { l with
    cum := if error && !asTest then l.cum.inc k.toLink else l.cum
    sec := if error && !asTest then l.sec.inc k.toLink else l.sec }

/-! Each counter after one possible error. -/

section OneCounter

variable (k : SatKind) (error asTest : Bool)

theorem Sat.countError_cum (x : Sat) (j : SatKind) :
    (x.countError k error asTest).cum.get j =
      if j = k ∧ (error && !asTest) = true then onceMore (x.cum.get j) else x.cum.get j := by
  unfold Sat.countError
  cases error && !asTest <;> simp [SatCounters.get_inc]

theorem Sat.countError_sec (x : Sat) (j : SatKind) :
    (x.countError k error asTest).sec.get j =
      if j = k ∧ (error && !asTest) = true then onceMore (x.sec.get j) else x.sec.get j := by
  unfold Sat.countError
  cases error && !asTest <;> simp [SatCounters.get_inc]

theorem Sat.countError_test (x : Sat) (j : TestCounterKind) :
    (x.countError k error asTest).test.get j =
      if j = k.testCounter ∧ (error && asTest) = true then onceMore (x.test.get j) else x.test.get j := by
  unfold Sat.countError
  cases error && asTest <;> simp [TestCounters.get_inc]

theorem LinkRegs.countError_cum (l : LinkRegs) (j : LinkKind) :
    (l.countError k error asTest).cum.get j =
      if j = k.toLink ∧ (error && !asTest) = true then onceMore (l.cum.get j) else l.cum.get j := by
  unfold LinkRegs.countError
  cases error && !asTest <;> simp [LinkCounters.get_inc]

theorem LinkRegs.countError_sec (l : LinkRegs) (j : LinkKind) :
    (l.countError k error asTest).sec.get j =
      if j = k.toLink ∧ (error && !asTest) = true then onceMore (l.sec.get j) else l.sec.get j := by
  unfold LinkRegs.countError
  cases error && !asTest <;> simp [LinkCounters.get_inc]

end OneCounter

/-- One possible error of satellite `a`, as `route` deals with it. -/
def State.routeError (s : State) (a : Nat) (k : SatKind) (error : Bool) : State :=
  if error then s.routeOne a k else s

theorem route_eq_routeError (s : State) (a : Nat) (errs : SatKind → Bool) :
    s.route a (errs .rxcrc) (errs .remcrc) (errs .wd) =
      ((s.routeError a .rxcrc (errs .rxcrc)).routeError a .remcrc (errs .remcrc)).routeError a .wd (errs .wd) := rfl

section OneError

variable (s : State) (a : Nat) (k : SatKind) (error : Bool)

theorem routeError_link :
    (s.routeError a k error).link = s.link.countError k error (s.testRoute a k.testKind) := by
  unfold State.routeError State.routeOne
  cases error with
  | false => rfl
  | true => cases h : s.testRoute a k.testKind <;> rfl

theorem routeError_sats :
    (s.routeError a k error).sats = s.sats.modify a (·.countError k error (s.testRoute a k.testKind)) := by
  unfold State.routeError State.routeOne
  cases error with
  | false => exact (List.modify_id a s.sats).symm
  | true => cases h : s.testRoute a k.testKind <;> rfl

/-- R161 and R163 write counters of the satellite and of the Link. -/
theorem routeError_frame (x : List Sat) (l : LinkRegs) :
    { s.routeError a k error with sats := x, link := l } = { s with sats := x, link := l } := by
  unfold State.routeError State.routeOne
  cases error with
  | false => rfl
  | true => cases s.testRoute a k.testKind <;> rfl

/-- Counting leaves alone what decides between a test and a genuine error. -/
theorem routeError_testRoute (c : Nat) (j : TestKind) : (s.routeError a k error).testRoute c j = s.testRoute c j := by
  have hframe := routeError_frame s a k error [] s.link
  have hslots : (s.routeError a k error).slots = s.slots := (congrArg State.slots hframe :)
  have hcfg : (s.routeError a k error).cfg = s.cfg := (congrArg State.cfg hframe :)
  simp only [State.testRoute, slot_congr hslots, hcfg]

theorem routeError_sat (h : a < s.sats.length) :
    (s.routeError a k error).sat a = (s.sat a).countError k error (s.testRoute a k.testKind) := by
  have hsats : (s.routeError a k error).sats
      = (s.modifySat a (·.countError k error (s.testRoute a k.testKind))).sats := routeError_sats s a k error
  rw [sat_congr hsats, sat_modifySat, if_pos ⟨rfl, h⟩]

theorem routeError_sats_length : (s.routeError a k error).sats.length = s.sats.length := by
  rw [routeError_sats, List.length_modify]

theorem routeError_sats_of_ne {j : Nat} (h : j ≠ a) : (s.routeError a k error).sats[j]? = s.sats[j]? := by
  rw [routeError_sats, List.getElem?_modify_ne _ _ (Ne.symm h)]

end OneError

/-! ## The three errors of a satellite -/

/-- What the three possible errors of a satellite make of it: `errs` says which there are, `asTest` which of them a
running test explains. -/
def Sat.countErrors (x : Sat) (errs asTest : SatKind → Bool) : Sat :=
  ((x.countError .rxcrc (errs .rxcrc) (asTest .rxcrc)).countError .remcrc (errs .remcrc) (asTest .remcrc)).countError
    .wd (errs .wd) (asTest .wd)

/-- What they make of the Link. -/
def LinkRegs.countErrors (l : LinkRegs) (errs asTest : SatKind → Bool) : LinkRegs :=
  ((l.countError .rxcrc (errs .rxcrc) (asTest .rxcrc)).countError .remcrc (errs .remcrc) (asTest .remcrc)).countError
    .wd (errs .wd) (asTest .wd)

/-- The errors of satellite `a` that a running test explains (R161, R162). -/
def State.explained (s : State) (a : Nat) (k : SatKind) : Bool := s.testRoute a k.testKind

section ThreeErrors

variable (s : State) (a : Nat) (errs : SatKind → Bool)

theorem route_sat (h : a < s.sats.length) :
    (s.route a (errs .rxcrc) (errs .remcrc) (errs .wd)).sat a = (s.sat a).countErrors errs (s.explained a) := by
  rw [route_eq_routeError]
  simp only [routeError_sat, routeError_sats_length, routeError_testRoute, h, Sat.countErrors, State.explained]

theorem route_link :
    (s.route a (errs .rxcrc) (errs .remcrc) (errs .wd)).link = s.link.countErrors errs (s.explained a) := by
  rw [route_eq_routeError]
  simp only [routeError_link, routeError_testRoute, LinkRegs.countErrors, State.explained]

theorem route_sats_of_ne {j : Nat} (h : j ≠ a) :
    (s.route a (errs .rxcrc) (errs .remcrc) (errs .wd)).sats[j]? = s.sats[j]? := by
  rw [route_eq_routeError]
  simp only [routeError_sats_of_ne _ _ _ _ h]

theorem route_frame :
    { s.route a (errs .rxcrc) (errs .remcrc) (errs .wd) with sats := s.sats, link := s.link } = s := by
  rw [route_eq_routeError, routeError_frame, routeError_frame, routeError_frame]

end ThreeErrors

/-! ## The counters one by one -/

section Counters

variable (errs asTest : SatKind → Bool) (k : SatKind)

theorem Sat.countErrors_cum (x : Sat) :
    (x.countErrors errs asTest).cum.get k = if errs k && !asTest k then onceMore (x.cum.get k) else x.cum.get k := by
  cases k <;> simp only [Sat.countErrors, Sat.countError_cum, reduceCtorEq, true_and, false_and, if_false]

theorem Sat.countErrors_sec (x : Sat) :
    (x.countErrors errs asTest).sec.get k = if errs k && !asTest k then onceMore (x.sec.get k) else x.sec.get k := by
  cases k <;> simp only [Sat.countErrors, Sat.countError_sec, reduceCtorEq, true_and, false_and, if_false]

theorem Sat.countErrors_test (x : Sat) :
    (x.countErrors errs asTest).test.get k.testCounter =
      if errs k && asTest k then onceMore (x.test.get k.testCounter) else x.test.get k.testCounter := by
  cases k <;> simp only [Sat.countErrors, Sat.countError_test, SatKind.testCounter, reduceCtorEq, true_and, false_and,
    if_false]

theorem LinkRegs.countErrors_cum (l : LinkRegs) :
    (l.countErrors errs asTest).cum.get k.toLink =
      if errs k && !asTest k then onceMore (l.cum.get k.toLink) else l.cum.get k.toLink := by
  cases k <;> simp only [LinkRegs.countErrors, LinkRegs.countError_cum, SatKind.toLink, reduceCtorEq, true_and,
    false_and, if_false]

theorem LinkRegs.countErrors_sec (l : LinkRegs) :
    (l.countErrors errs asTest).sec.get k.toLink =
      if errs k && !asTest k then onceMore (l.sec.get k.toLink) else l.sec.get k.toLink := by
  cases k <;> simp only [LinkRegs.countErrors, LinkRegs.countError_sec, SatKind.toLink, reduceCtorEq, true_and,
    false_and, if_false]

/-- No error of a satellite is of a kind that the Link alone has. -/
theorem LinkRegs.countErrors_of_linkOnly (l : LinkRegs) {j : LinkKind} (h : ∀ k : SatKind, j ≠ k.toLink) :
    (l.countErrors errs asTest).cum.get j = l.cum.get j ∧ (l.countErrors errs asTest).sec.get j = l.sec.get j := by
  simp only [LinkRegs.countErrors, LinkRegs.countError_cum, LinkRegs.countError_sec, h, false_and, if_false, and_self]

end Counters

theorem explained_iff (s : State) (a : Nat) (k : SatKind) :
    s.explained a k = true ↔
      (s.slot a).tm.get k.testKind = .active
        ∨ (s.cfg.routeDeactAsTest = true ∧ ∃ n, (s.slot a).tm.get k.testKind = .deactivating n) := by
  unfold State.explained State.testRoute
  cases (s.slot a).tm.get k.testKind <;> simp [TestMode.isActive, TestMode.isDeactivating]

end ErrorCounting

end Sys2Proof.Machine

section CountingStatements

open Sys2Proof Sys2Proof.Machine

/-- Settles O41. -/
theorem latchAccumulatesUntilConsumed : Obligations.LatchAccumulatesUntilConsumed :=
  ⟨latch_of_dirty, latch_of_clean⟩

/-- Settles O42: the counters of the satellite and of the Link one by one, each kind by whether its test explains
it. -/
theorem errorsGoToOneSetOfCounters : Obligations.ErrorsGoToOneSetOfCounters := by
  refine ⟨fun s k j => ⟨LinkCounters.get_inc s.link.cum k j, LinkCounters.get_inc s.link.sec k j, rfl, rfl⟩, ?route⟩
  case route =>
    intro s a errs _ hp t testKind asTest
    have hsat : t.sat a = (s.sat a).countErrors errs (s.explained a) := route_sat s a errs (present_lt hp).2
    have hlink : t.link = s.link.countErrors errs (s.explained a) := route_link s a errs
    have hkind : ∀ k, testKind k = k.testKind := fun k => by cases k <;> rfl
    have hexplained : ∀ k, asTest k ↔ s.explained a k = true := fun k => by
      rw [explained_iff, ← hkind]
    rw [hsat, hlink]
    refine ⟨fun k hk => ?asTest, fun k hk => ?genuine, fun k hk => ?linkOnly, rfl,
      fun j hj => route_sats_of_ne s a errs hj, rfl, route_frame s a errs⟩
    case asTest =>
      have he := (hexplained k).mp hk
      simp only [Sat.countErrors_cum, Sat.countErrors_sec, Sat.countErrors_test, LinkRegs.countErrors_cum,
        LinkRegs.countErrors_sec, he, Bool.not_true, Bool.and_false, Bool.and_true, Bool.false_eq_true, if_false,
        and_self]
    case genuine =>
      have he : s.explained a k = false := Bool.eq_false_iff.mpr fun h => hk ((hexplained k).mpr h)
      simp only [Sat.countErrors_cum, Sat.countErrors_sec, Sat.countErrors_test, LinkRegs.countErrors_cum,
        LinkRegs.countErrors_sec, he, Bool.not_false, Bool.and_false, Bool.and_true, Bool.false_eq_true, if_false,
        and_self]
    case linkOnly =>
      refine LinkRegs.countErrors_of_linkOnly errs _ s.link fun j => ?_
      rcases hk with rfl | rfl | rfl <;> cases j <;> exact LinkKind.noConfusion

end CountingStatements

/-! # PROCESS with a transport error (spec/42_scan_engine.md R156)

The error is counted first, then the active slots are visited in ascending order. What the visits of the first `n`
slots have done is `LatchedBelow`, which one more visit takes from `n` to `n + 1`. -/

namespace Sys2Proof.Machine

section TransportError

/-- The flags that a transport error latches (R156). -/
def State.transportFlags (s : State) : Status :=
  { Status.zero with rxSymbolError := s.cyc.sym, rxDataSizeError := s.cyc.size }

/-- Slot `i` with these flags latched. -/
def State.transportLatched (s : State) (i : Nat) : Slot :=
  { s.slot i with status := (s.slot i).status.latch s.transportFlags }

/-- What the listener of slot `i` is told of them: nothing where no satellite exists. -/
def State.transportNotice (s : State) (i : Nat) : Option Event :=
  if s.satPresent i then some (.statusNotify i (s.transportLatched i).status.bits) else none

theorem transportLatched_congr {s t : State} {i : Nat} (hslot : t.slot i = s.slot i) (hcyc : t.cyc = s.cyc) :
    t.transportLatched i = s.transportLatched i := by
  simp only [State.transportLatched, State.transportFlags, hslot, hcyc]

theorem transportNotice_congr {s t : State} {i : Nat} (hslot : t.slot i = s.slot i) (hcyc : t.cyc = s.cyc)
    (hcfg : t.cfg = s.cfg) (hsats : t.sats = s.sats) : t.transportNotice i = s.transportNotice i := by
  simp only [State.transportNotice, satPresent_congr hcfg hsats, transportLatched_congr hslot hcyc]

/-! ## The visit of one slot -/

section OneSlot

variable (s : State) (i : Nat)

theorem notifyStatus_slots : (s.notifyStatus i).slots = s.slots := by
  unfold State.notifyStatus
  split
  · exact emit_slots s _
  · rfl

theorem processBadSlot_frame (x : List Slot) (q : List Word) (o : Bool) :
    { s.processBadSlot i with slots := x, evq := q, evOvf := o } = { s with slots := x, evq := q, evOvf := o } := by
  unfold State.processBadSlot State.notifyStatus
  split
  · exact congrArg (State.setSlots · x) (emit_frame _ _ q o)
  · rfl

theorem processBadSlot_slots_length : (s.processBadSlot i).slots.length = s.slots.length := by
  rw [State.processBadSlot, notifyStatus_slots, State.latchStatus, modifySlot_length]

theorem latchTransport_slot (j : Nat) :
    (s.latchStatus i s.transportFlags).slot j =
      if i = j ∧ j < s.slots.length then s.transportLatched j else s.slot j := slot_modifySlot s i j _

theorem processBadSlot_slot (j : Nat) :
    (s.processBadSlot i).slot j = if i = j ∧ j < s.slots.length then s.transportLatched j else s.slot j :=
  (slot_congr (notifyStatus_slots _ i) j).trans (latchTransport_slot s i j)

theorem processBadSlot_queue (h : i < s.slots.length) :
    (s.processBadSlot i).queue = (s.emitAll (s.transportNotice i).toList).queue := by
  have hpresent : (s.latchStatus i s.transportFlags).satPresent i = s.satPresent i := satPresent_congr rfl rfl i
  have hslot := latchTransport_slot s i i
  rw [if_pos ⟨rfl, h⟩] at hslot
  change ((s.latchStatus i s.transportFlags).notifyStatus i).queue = _
  rw [State.notifyStatus, hpresent, hslot, State.transportNotice]
  split
  · exact emit_queue_congr (t := s.latchStatus i s.transportFlags) (s := s) rfl rfl _
  · rfl

end OneSlot

/-! ## The visits of the first slots -/

/-- What the visits of the slots below `n` make of `s`. -/
structure LatchedBelow (s : State) (n : Nat) (t : State) : Prop where
  frame : { t with slots := s.slots, evq := s.evq, evOvf := s.evOvf } = s
  slots : t.slots.length = s.slots.length
  slot : ∀ i, t.slot i = if i < n then s.transportLatched i else s.slot i
  queue : t.queue = (s.emitAll ((List.range n).filterMap s.transportNotice)).queue

variable {s t : State} {n : Nat}

theorem latchedBelow_zero (s : State) : LatchedBelow s 0 s := ⟨rfl, rfl, fun _ => rfl, rfl⟩

theorem latchedBelow_succ (hn : n < s.slots.length) (h : LatchedBelow s n t) :
    LatchedBelow s (n + 1) (t.processBadSlot n) := by
  obtain ⟨hframe, hlength, hslot, hqueue⟩ := h
  have hcfg : t.cfg = s.cfg := (congrArg State.cfg hframe :)
  have hcyc : t.cyc = s.cyc := (congrArg State.cyc hframe :)
  have hsats : t.sats = s.sats := (congrArg State.sats hframe :)
  have hn' : t.slot n = s.slot n := (hslot n).trans (if_neg (Nat.lt_irrefl n))
  have hlatched : t.transportLatched n = s.transportLatched n := transportLatched_congr hn' hcyc
  have hnotice : t.transportNotice n = s.transportNotice n := transportNotice_congr hn' hcyc hcfg hsats
  refine ⟨?frame, ?slots, fun i => ?slot, ?queue⟩
  case frame => rw [processBadSlot_frame, hframe]
  case slots => rw [processBadSlot_slots_length, hlength]
  case slot =>
    rw [processBadSlot_slot, hlength, hslot]
    rcases Nat.lt_trichotomy i n with hlt | rfl | hgt
    · rw [if_neg (by omega), if_pos hlt, if_pos (by omega)]
    · rw [if_pos ⟨rfl, hn⟩, if_pos (by omega), hlatched]
    · rw [if_neg (by omega), if_neg (by omega), if_neg (by omega)]
  case queue =>
    rw [processBadSlot_queue t n (hlength.symm ▸ hn), hnotice, List.range_succ, List.filterMap_append, emitAll_append,
      List.filterMap_cons]
    exact emitAll_queue_congr (by rw [hcfg, emitAll_cfg]) hqueue _

theorem latchedBelow_foldl (s : State) (hn : n ≤ s.slots.length) :
    LatchedBelow s n ((List.range n).foldl (fun t i => t.processBadSlot i) s) := by
  induction n with
  | zero => exact latchedBelow_zero s
  | succ n ih =>
    rw [List.range_succ, List.foldl_append]
    exact latchedBelow_succ hn (ih (Nat.le_of_succ_le hn))

/-! ## The whole of PROCESS -/

/-- `t` with all that PROCESS of a transport error may write taken from `s`. -/
def State.processBadFrame (s t : State) : State :=
  { t with
    scanPhase := s.scanPhase
    link := s.link
    slots := s.slots
    evq := s.evq
    evOvf := s.evOvf
    env := s.env }

/-- The transport error counted at the Link, before any slot is visited (R156). -/
def State.countTransport (s : State) : State :=
  let s1 := if s.cyc.sym then s.countLink .sym else s
  if s.cyc.size then s1.countLink .size else s1

theorem processBad_eq (s : State) :
    s.processBad = (List.range s.activeSlots).foldl (fun t i => t.processBadSlot i) s.countTransport := rfl

theorem countTransport_frame (s : State) (l : LinkRegs) :
    { s.countTransport with link := l } = { s with link := l } := by
  unfold State.countTransport
  cases s.cyc.sym <;> cases s.cyc.size <;> rfl

theorem countTransport_link_frame (s : State) (c d : LinkCounters) :
    { s.countTransport.link with cum := c, sec := d } = { s.link with cum := c, sec := d } := by
  unfold State.countTransport
  cases s.cyc.sym <;> cases s.cyc.size <;> rfl

theorem countTransport_cum (s : State) (k : LinkKind) :
    s.countTransport.link.cum.get k =
      if (k = .sym ∧ s.cyc.sym = true) ∨ (k = .size ∧ s.cyc.size = true) then onceMore (s.link.cum.get k)
      else s.link.cum.get k := by
  unfold State.countTransport
  cases s.cyc.sym <;> cases s.cyc.size <;> cases k <;> simp [countLink_link, LinkCounters.get_inc]

theorem countTransport_sec (s : State) (k : LinkKind) :
    s.countTransport.link.sec.get k =
      if (k = .sym ∧ s.cyc.sym = true) ∨ (k = .size ∧ s.cyc.size = true) then onceMore (s.link.sec.get k)
      else s.link.sec.get k := by
  unfold State.countTransport
  cases s.cyc.sym <;> cases s.cyc.size <;> cases k <;> simp [countLink_link, LinkCounters.get_inc]

theorem scanProcess_of_transportError (h : s.cyc.sym = true ∨ s.cyc.size = true) :
    s.scanProcess = s.processBad.setPhase .budget := by
  rw [State.scanProcess, if_pos (Bool.or_eq_true_iff.mpr h)]

theorem processBad_latches (s : State) (h : s.activeSlots ≤ s.slots.length) :
    LatchedBelow s.countTransport s.activeSlots s.processBad := by
  have hslots : s.countTransport.slots = s.slots := (congrArg State.slots (countTransport_frame s s.link) :)
  exact latchedBelow_foldl s.countTransport (hslots ▸ h)

end TransportError

end Sys2Proof.Machine

section TransportErrorStatement

open Sys2Proof Sys2Proof.Machine

/-- Settles O39: the visits of the active slots start from `u`, which is `s` with the input taken and the error
counted. -/
theorem transportErrorsDecodeNothing : Obligations.TransportErrorsDecodeNothing := by
  intro s _ hactive hinput hphase herr
  let u := s.inputTaken.countTransport
  have hu : { u with link := s.link, env := s.env } = s := by
    have hcounted : { u with link := s.link } = { s.inputTaken with link := s.link } := countTransport_frame _ _
    exact (congrArg (State.setEnv · s.env) hcounted).trans
      (congrArg (State.setLink · s.link) (inputTaken_frame s s.env))
  have hslots : u.slots = s.slots := (congrArg State.slots hu :)
  have hsats : u.sats = s.sats := (congrArg State.sats hu :)
  have hcyc : u.cyc = s.cyc := (congrArg State.cyc hu :)
  have hcfg : u.cfg = s.cfg := (congrArg State.cfg hu :)
  have hqueue : u.queue = s.queue := (congrArg State.queue hu :)
  have henv : u.env = s.inputTaken.env := (congrArg State.env (countTransport_frame s.inputTaken s.link) :)
  have hslot : ∀ i, u.slot i = s.slot i := slot_congr hslots
  have hlatched : ∀ i, u.transportLatched i = s.transportLatched i :=
    fun i => transportLatched_congr (hslot i) hcyc
  have hnotice : u.transportNotice = s.transportNotice :=
    funext fun i => transportNotice_congr (hslot i) hcyc hcfg hsats
  have hvisits := processBad_latches s.inputTaken (by simpa using hactive)
  rw [inputTaken_activeSlots] at hvisits
  obtain ⟨hframe, hlength, hvisited, hevents⟩ := hvisits
  have hlink : s.inputTaken.processBad.link = u.link := (congrArg State.link hframe :)
  have hstep : step s = .next (s.inputTaken.processBad.setPhase .budget) := by
    rw [step_process hinput hphase, scanProcess_of_transportError (by simpa using herr)]
  refine ⟨_, hstep, ⟨fun i => ?slot, ?events⟩, fun k => ?cum, fun k => ?sec, ?linkFrame, ?length, ?env, ?frame⟩
  case slot => exact (hvisited i).trans (by rw [hlatched, hslot]; rfl)
  case events =>
    have hall : s.inputTaken.processBad.queue
        = (s.emitAll ((List.range s.activeSlots).filterMap s.transportNotice)).queue := by
      rw [hevents, hnotice]
      exact emitAll_queue_congr hcfg hqueue _
    exact ⟨congrArg Prod.fst hall, congrArg Prod.snd hall⟩
  case cum =>
    rw [setPhase_link, hlink, countTransport_cum, inputTaken_cyc, inputTaken_link]
  case sec =>
    rw [setPhase_link, hlink, countTransport_sec, inputTaken_cyc, inputTaken_link]
  case linkFrame =>
    rw [setPhase_link, hlink, countTransport_link_frame, inputTaken_link]
  case length => exact hlength.trans (by rw [hslots])
  case env => exact (congrArg State.env hframe :).trans henv
  case frame => exact (congrArg s.processBadFrame hframe :).trans (congrArg s.processBadFrame hu :)

end TransportErrorStatement

/-! # SEQ (spec/42_scan_engine.md R176, spec/44_state_machine.md R221)

The self-test steps of SEQ ask for each satellite at its turn. Since a step changes its own satellite alone, and does
nothing where no test runs, they are the steps of the satellites that exist and run a test when the walk begins. -/

namespace Sys2Proof.Machine

section Sequencing

variable (s : State)

/-! ## The self-test step of one satellite -/

theorem Local.refl (a : Nat) : Local a s s := local_of_eq rfl rfl rfl

variable {s} in
theorem Local.ite {a : Nat} {t u : State} {c : Prop} [Decidable c] (ht : Local a s t) (hu : Local a s u) :
    Local a s (if c then t else u) := by
  split
  · exact ht
  · exact hu

theorem selftestFinish_local (a : Nat) (code : SelftestCode) : Local a s (s.selftestFinish a code) :=
  .ite ((((writeTx_local s a _).trans (modifySat_local _ a _)).trans (emit_local _ a _)).trans (blockOne_local _ a _))
    (((writeTx_local s a _).trans (modifySat_local _ a _)).trans (emit_local _ a _))

theorem selftestAdvance_local (a : Nat) (done next : TestKind) (phase : StPhase) :
    Local a s (s.selftestAdvance a done next phase) :=
  ((setTxReq_local s a done false).trans (setTxReq_local _ a next true)).trans (modifySat_local _ a _)

theorem selftestPhaseEnd_local (a : Nat) : Local a s (s.selftestPhaseEnd a) := by
  unfold State.selftestPhaseEnd
  split
  · exact .refl s a
  · exact .ite (selftestFinish_local s a _) (selftestAdvance_local s a _ _ _)
  · exact .ite (selftestFinish_local s a _) (selftestAdvance_local s a _ _ _)
  · exact .ite (selftestFinish_local s a _) (selftestFinish_local s a _)

theorem selftestStep_local (a : Nat) : Local a s (s.selftestStep a) :=
  .ite (.refl s a) (.ite ((modifySat_local s a _).trans (selftestPhaseEnd_local _ a)) (modifySat_local s a _))

theorem selftestStep_of_idle {a : Nat} (h : (s.sat a).stPhase = .idle) : s.selftestStep a = s := if_pos h

/-- A walk whose visits change their own satellite alone, and do nothing where `c` fails, is the walk over the
satellites that exist and for which `c` holds when it begins. -/
theorem forEachSat_eq_foldl {g : Nat → State → State} {c : Sat → Bool} (hl : ∀ a t, Local a t (g a t))
    (hc : ∀ a t, c (t.sat a) = false → g a t = t) :
    s.forEachSat g = (s.children.filter fun a => c (s.sat a)).foldl (fun t a => g a t) s := by
  unfold State.forEachSat State.children
  have hn : s.addresses.Nodup := List.nodup_range
  generalize s.addresses = l at hn
  induction l generalizing s with
  | nil => rfl
  | cons b l ih =>
    obtain ⟨hb, hn⟩ := List.nodup_cons.mp hn
    rw [List.foldl_cons, ih _ hn]
    by_cases hp : s.satPresent b = true
    · have hother : ∀ a ∈ l, (g b s).at a = s.at a := fun a ha => (hl b s).other a fun h => hb (h ▸ ha)
      have hpresent : l.filter (fun a => (g b s).satPresent a) = l.filter fun a => s.satPresent a :=
        List.filter_congr fun a ha => satPresent_of_at (hl b s).cfg (hother a ha)
      have hkept : (l.filter fun a => s.satPresent a).filter (fun a => c ((g b s).sat a))
          = (l.filter fun a => s.satPresent a).filter fun a => c (s.sat a) :=
        List.filter_congr fun a ha => by rw [sat_of_at (hother a (List.mem_of_mem_filter ha))]
      rw [if_pos hp, hpresent, hkept, List.filter_cons_of_pos (p := fun a => s.satPresent a) hp]
      cases hcb : c (s.sat b) with
      | true => rw [List.filter_cons_of_pos (p := fun a => c (s.sat a)) hcb, List.foldl_cons]
      | false => rw [List.filter_cons_of_neg (p := fun a => c (s.sat a)) (by simp [hcb]), hc b s hcb]
    · rw [if_neg hp, List.filter_cons_of_neg (p := fun a => s.satPresent a) hp]

/-! ## The time bases at SEQ -/

theorem forEachSat_time {g : Nat → State → State} (hg : ∀ a t, (g a t).time = t.time) :
    (s.forEachSat g).time = s.time := forEachSat_keeps s State.time hg

theorem createSat_time (a : Nat) : (s.createSat a).time = s.time := by
  simp [State.createSat]

theorem foldl_createSat_time (l : List Nat) : (l.foldl (fun t a => t.createSat a) s).time = s.time :=
  foldl_induct s (P := fun t => t.time = s.time) l (fun a _ t ht => (createSat_time t a).trans ht) rfl

theorem probeEvaluate_time : s.probeEvaluate.time = s.time := by
  simp [State.probeEvaluate, State.probeAbort, State.probeAccept, apply_ite State.time]

theorem discoveryFinish_time : s.discoveryFinish.time = s.time := by
  simp [State.discoveryFinish, apply_ite State.time, foldl_createSat_time]

theorem discoveryStep_of_idle (h : s.disc.state = .idle) : s.discoveryStep = s := by
  rw [State.discoveryStep, h]

theorem discoveryStep_time : s.discoveryStep.time = s.time := by
  unfold State.discoveryStep
  simp only []
  split
  · rfl
  · split
    · exact probeEvaluate_time _
    · rfl
  · split
    · exact discoveryFinish_time _
    · rfl

theorem selftestFinish_time (a : Nat) (code : SelftestCode) : (s.selftestFinish a code).time = s.time := by
  simp [State.selftestFinish, apply_ite State.time]

theorem selftestPhaseEnd_time (a : Nat) : (s.selftestPhaseEnd a).time = s.time := by
  unfold State.selftestPhaseEnd
  split
  · rfl
  all_goals simp [State.selftestAdvance, apply_ite State.time, selftestFinish_time]

theorem selftestStep_time (a : Nat) : (s.selftestStep a).time = s.time := by
  simp [State.selftestStep, apply_ite State.time, selftestPhaseEnd_time]

/-! ## The re-establishment check (R221) -/

/-- The condition under which an expired timer asks for discovery. -/
def State.asksForDiscovery (s : State) : Prop :=
  s.link.op &&& 0x18#5 ≠ 0 ∧ s.link.adm = .enable ∧ s.disc.state = .idle ∧ s.disc.pending = false

theorem asksForDiscovery_iff :
    (hasBit s.link.op (opFail ||| opErrorSecond) && decide (s.link.adm = .enable) && decide (s.disc.state = .idle)
      && !s.disc.pending) = true ↔ s.asksForDiscovery := by
  have hmask : opFail ||| opErrorSecond = 0x18#5 := rfl
  simp [hmask, hasBit, State.asksForDiscovery, and_assoc]

variable {s}

theorem reestCheck_of_not_due (h : ¬ (s.reest.armed = true ∧ s.reest.deadline ≤ s.time.t5)) : s.reestCheck = s :=
  if_neg (by simpa using h)

theorem reestCheck_of_due_asking (h : s.reest.armed = true ∧ s.reest.deadline ≤ s.time.t5)
    (hasks : s.asksForDiscovery) :
    s.reestCheck =
      { s with reest := { s.reest with armed := false }, disc := { s.disc with pending := true } } := by
  rw [State.reestCheck, if_pos (by simpa using h), if_pos ((asksForDiscovery_iff s).mpr hasks)]
  rfl

theorem reestCheck_of_due_silent (h : s.reest.armed = true ∧ s.reest.deadline ≤ s.time.t5)
    (hasks : ¬ s.asksForDiscovery) : s.reestCheck = { s with reest := { s.reest with armed := false } } := by
  rw [State.reestCheck, if_pos (by simpa using h), if_neg (mt (asksForDiscovery_iff s).mp hasks)]
  rfl

end Sequencing

end Sys2Proof.Machine

section SequencingStatement

open Sys2Proof Sys2Proof.Machine

/-- Settles O48: the check by whether the timer is due and whether it asks, and the order of SEQ by
`forEachSat_eq_foldl`. -/
theorem reestablishmentIsOneShot : Obligations.ReestablishmentIsOneShot := by
  refine ⟨?check, fun s hinput hphase => ?order⟩
  case check =>
    intro s t due asks
    refine ⟨fun hdue => ?_, reestCheck_of_not_due⟩
    by_cases hasks : s.asksForDiscovery
    · have ht : t = _ := reestCheck_of_due_asking hdue hasks
      rw [ht]
      exact ⟨rfl, fun _ => rfl, fun h => absurd hasks h, rfl⟩
    · have ht : t = _ := reestCheck_of_due_silent hdue hasks
      rw [ht]
      exact ⟨rfl, fun h => absurd h hasks, fun _ => rfl, rfl⟩
  case order =>
    refine ⟨_, step_seq hinput hphase, ?_⟩
    intro v u
    have hv : v = s.inputTaken.discoveryStep := by
      by_cases hidle : s.disc.state = .idle
      · exact (if_pos hidle).trans (discoveryStep_of_idle _ (by simpa using hidle)).symm
      · exact if_neg hidle
    have hu : u = v.forEachSat fun a t => t.selftestStep a :=
      (forEachSat_eq_foldl v (c := fun x => decide (x.stPhase ≠ .idle)) (fun a t => selftestStep_local t a) fun a t h =>
        selftestStep_of_idle t (by simpa using h)).symm
    refine ⟨?time, ?state⟩
    case time => rw [hu, forEachSat_time v fun a t => selftestStep_time t a, hv, discoveryStep_time, inputTaken_time]
    case state => rw [hu, hv]; rfl

end SequencingStatement

/-! # TIMING (spec/42_scan_engine.md R173, R174) -/

namespace Sys2Proof.Machine

section Timing

variable {s : State}

/-- `t` with all that TIMING may write taken from `s`. -/
def State.timingFrame (s t : State) : State :=
  { t with scanPhase := s.scanPhase, link := s.link, time := s.time, env := s.env }

/-- R173: the time left of the period when TIMING reads the clock. -/
def State.timeLeft (s : State) : Int := s.time.periodBase + s.conf.scanInterval.toNat - s.tick.env.clock

theorem scanTiming_of_timeLeft (h : 0 < s.timeLeft) :
    s.scanTiming =
      (s.tick.setTime { s.time with periodBase := s.time.periodBase + s.conf.scanInterval.toNat }).setPhase .wait := by
  have hrem : 0 < ((s.tick.time.periodBase + s.tick.conf.scanInterval.toNat : Nat) : Int) - s.tick.env.clock := by
    simpa [State.timeLeft] using h
  rw [State.scanTiming, if_pos hrem, tick_time, tick_conf]

theorem scanTiming_of_overrun (h : ¬ 0 < s.timeLeft) :
    s.scanTiming =
      ((s.tick.countLink .timing).setTime { s.time with periodBase := s.tick.env.clock }).setPhase .wait := by
  have hrem : ¬ 0 < ((s.tick.time.periodBase + s.tick.conf.scanInterval.toNat : Nat) : Int) - s.tick.env.clock := by
    simpa [State.timeLeft] using h
  rw [State.scanTiming, if_neg hrem, tick_time]

theorem countLink_timing :
    (s.countLink .timing).link =
      { s.link with
        cum := { s.link.cum with timing := onceMore s.link.cum.timing }
        sec := { s.link.sec with timing := onceMore s.link.sec.timing } } := by
  simp only [countLink_link, LinkCounters.inc, LinkCounters.set, LinkCounters.get, satInc_eq]

end Timing

end Sys2Proof.Machine

section TimingStatement

open Sys2Proof Sys2Proof.Machine

/-- Settles O45, by whether any time is left. -/
theorem overrunsAreCountedAndNotMadeUp : Obligations.OverrunsAreCountedAndNotMadeUp := by
  intro s hinput hphase
  have hframe : s.timingFrame s.inputTaken.tick = s :=
    (congrArg s.timingFrame (tick_frame s.inputTaken s.env) :).trans
      (congrArg s.timingFrame (inputTaken_frame s s.env) :)
  rw [step_timing hinput hphase]
  by_cases hleft : 0 < s.inputTaken.timeLeft
  · rw [scanTiming_of_timeLeft hleft]
    refine ⟨_, rfl, rfl, rfl, hframe, fun _ => ⟨?_, ?_⟩, fun h => absurd ?_ h⟩
    · simp
    · simp
    · simpa [State.timeLeft] using hleft
  · rw [scanTiming_of_overrun hleft]
    refine ⟨_, rfl, rfl, ?_, hframe, fun h => absurd ?_ hleft, fun _ => ⟨?_, ?_⟩⟩
    · simp
    · simpa [State.timeLeft] using h
    · simp
    · simp [countLink_timing]

end TimingStatement

/-! # The host commands (spec/46_host_commands.md R250 to R267)

First R250's template, which every command follows: the checks of the word and of ARG, next the satellite that it
addresses, last its effect. The statements on a command then say what its effect does. -/

namespace Sys2Proof.Machine

section CommandTemplate

/-- A command's effect: what is left of it once its word, its ARG and its satellite have passed their checks, with the
checks of the state that its rule makes. -/
def State.effect (s : State) : Instr → CmdResult
  | .nop _ => .ok (s, 0)
  | .setactval f =>
    .ok (s.writeTx f.sat.toNat fun sl =>
      { sl with txActVal := sl.txActVal.setIfInBounds f.ch.toNat (s.host.arg.extractLsb' 0 8) }, 0)
  | .setactmode f =>
    .ok (s.writeTx f.sat.toNat fun sl =>
      { sl with txActMode := sl.txActMode.setIfInBounds f.ch.toNat (s.host.arg.extractLsb' 0 3) }, 0)
  | .setsaten f => .ok (s.writeTx f.sat.toNat fun sl => { sl with txEnableReq := s.host.arg.getLsbD 0 }, 0)
  | .linkenable _ => (s.admDeBlock .link).map fun t => (t, 0)
  | .linkdisable _ => (s.admBlock .link).map fun t => (t, 0)
  | .satenable f => (s.admDeBlock (.sat f.sat.toNat)).map fun t => (t, 0)
  | .satdisable f => (s.admBlock (.sat f.sat.toNat)).map fun t => (t, 0)
  | .selftest f => (s.selftestStart f.sat.toNat false).map fun t => (t, 0)
  | .setlinkthres _ =>
    .ok (s.setLink { s.link with thresHigh := argHigh s.host.arg, thresLow := argLow s.host.arg }, 0)
  | .setsatthres f =>
    .ok (s.modifySat f.sat.toNat fun x =>
      { x with thresHigh := argHigh s.host.arg, thresLow := argLow s.host.arg }, 0)
  | .rdlinkcnt f =>
    match linkKindOf f.kind with
    | none => .error .badParameter
    | some k => .ok (if f.rst then s.clearLinkCounter k f.sel else s, s.linkCounter k f.sel)
  | .rdsatcnt f =>
    match satCounterOf f.kind f.sel with
    | none => .error .badParameter
    | some c =>
      .ok (if f.rst then s.modifySat f.sat.toNat (·.clearCounter c) else s, (s.sat f.sat.toNat).counter c)
  | .rdsatstate f => .ok (s, s.satState f.sat.toNat)
  | .consumestatus f =>
    .ok (s.modifySlot f.sat.toNat fun sl => { sl with status := { sl.status with dirty := false } },
      (s.slot f.sat.toNat).status.word)
  | .illegal0f _ | .illegal1x _ _ | .illegal2x _ _ | .illegal4x _ _ | .illegal8x _ _ => .error .badParameter

/-- A command's word and ARG pass their checks. -/
def State.admits (s : State) (i : Instr) : Bool := i.wellFormed && argInRange s.host.arg i

/-- A command's effect behind the checks, in the order of R250. -/
def State.checked (s : State) (i : Instr) : CmdResult :=
  if !s.admits i then .error .badParameter
  else if addressesSat i && !s.satPresent i.fields.sat.toNat then .error .notFound
  else s.effect i

/-- Two checks in a row with the same result code are one. -/
theorem guard_guard (c d : Bool) (code : ResultCode) (r : CmdResult) :
    (if !c then .error code else if !d then .error code else r) = if !(c && d) then .error code else r := by
  cases c <;> cases d <;> rfl

theorem linkKindOf_isSome : ∀ kind : BitVec 4, (linkKindOf kind).isSome = decide (kind.toNat ≤ 5) := by decide

theorem satCounterOf_isSome : ∀ (kind : BitVec 4) (sel : Bool),
    (satCounterOf kind sel).isSome = ((decide (2 ≤ kind.toNat) && decide (kind.toNat ≤ 4))
      || (decide (6 ≤ kind.toNat) && decide (kind.toNat ≤ 8) && !sel)) := by decide

variable (s : State) (f : CmdFields)

/-! What the checks of each command come to, in the tests of Machine/Operands.lean. -/

theorem admits_setactval :
    s.admits (.setactval f) = (onlySatCh f && !(!channelOk f || !argFits s.host.arg 8)) := by
  rw [onlySatCh_eq_unusedZero, ← Bool.not_and, Bool.not_not, ← Bool.and_assoc]
  rfl

theorem admits_setactmode :
    s.admits (.setactmode f) = (onlySatCh f && !(!channelOk f || !argFits s.host.arg 3)) := by
  rw [onlySatCh_eq_unusedZero, ← Bool.not_and, Bool.not_not, ← Bool.and_assoc]
  rfl

theorem admits_setsaten : s.admits (.setsaten f) = (onlySat f && argFits s.host.arg 1) := by
  rw [onlySat_eq_unusedZero]
  rfl

theorem admits_setlinkthres : s.admits (.setlinkthres f) = (onlyOpcode f && thresholdsOk s.host.arg) := rfl

theorem admits_setsatthres : s.admits (.setsatthres f) = (onlySat f && thresholdsOk s.host.arg) := by
  rw [onlySat_eq_unusedZero]
  rfl

theorem admits_of_arg_ignored {i : Instr} (h : usesArg i = false) : s.admits i = i.wellFormed := by
  cases i with
  | setactval f | setactmode f | setsaten f | setlinkthres f | setsatthres f => cases h
  | _ => exact Bool.and_true _

theorem admits_rdlinkcnt : s.admits (.rdlinkcnt f) = (onlyCounter f && (linkKindOf f.kind).isSome) := by
  rw [admits_of_arg_ignored s rfl, onlyCounter_eq_unusedZero, linkKindOf_isSome]
  rfl

theorem admits_rdsatcnt :
    s.admits (.rdsatcnt f) = (onlySatCounter f && (satCounterOf f.kind f.sel).isSome) := by
  rw [admits_of_arg_ignored s rfl, onlySatCounter_eq_unusedZero, satCounterOf_isSome]
  rfl

/-- R250: every command is its checks and then its effect. -/
theorem exec_eq_checked (i : Instr) : exec i s = runCommand s (s.checked i) := by
  unfold State.checked
  cases i with
  | nop f | linkenable f | linkdisable f =>
    rw [admits_of_arg_ignored s rfl]
    rfl
  | satenable f | satdisable f | selftest f | rdsatstate f | consumestatus f =>
    rw [admits_of_arg_ignored s rfl, Instr.wellFormed, ← onlySat_eq_unusedZero]
    rfl
  | setactval f =>
    rw [admits_setactval, ← guard_guard, Bool.not_not]
    rfl
  | setactmode f =>
    rw [admits_setactmode, ← guard_guard, Bool.not_not]
    rfl
  | setsaten f =>
    rw [admits_setsaten, ← guard_guard]
    rfl
  | setlinkthres f =>
    rw [admits_setlinkthres, ← guard_guard]
    rfl
  | setsatthres f =>
    rw [admits_setsatthres, ← guard_guard]
    rfl
  | rdlinkcnt f =>
    rw [admits_rdlinkcnt, ← guard_guard]
    simp only [exec, execRdLinkCnt, State.effect]
    cases linkKindOf f.kind <;> rfl
  | rdsatcnt f =>
    rw [admits_rdsatcnt, ← guard_guard]
    simp only [exec, execRdSatCnt, State.effect]
    cases satCounterOf f.kind f.sel <;> rfl
  | illegal0f f | illegal1x lo f | illegal2x lo f | illegal4x lo f | illegal8x lo f => rfl

variable {s : State} {i : Instr}

theorem exec_of_not_admitted (h : s.admits i = false) : exec i s = .next (s.ended 0x06 0) := by
  rw [exec_eq_checked, State.checked, h]
  rfl

/-- The same where the checks are given by what fails them. -/
theorem exec_of_failed_check {bad : Prop} (hadmits : s.admits i = true ↔ ¬ bad) (h : bad) :
    exec i s = .next (s.ended 0x06 0) :=
  exec_of_not_admitted (Bool.eq_false_iff.mpr fun hi => hadmits.mp hi h)

theorem exec_of_absent (h : s.admits i = true) (hsat : addressesSat i = true)
    (habsent : s.satPresent i.fields.sat.toNat = false) : exec i s = .next (s.ended 0x05 0) := by
  rw [exec_eq_checked, State.checked, h, hsat, habsent]
  rfl

theorem checked_of_present (h : s.admits i = true) (hpresent : s.satPresent i.fields.sat.toNat = true) :
    s.checked i = s.effect i := by
  rw [State.checked, h, hpresent, Bool.not_true, Bool.and_false]
  rfl

theorem checked_of_no_satellite (h : s.admits i = true) (hsat : addressesSat i = false) :
    s.checked i = s.effect i := by
  rw [State.checked, h, hsat]
  rfl

theorem exec_of_effect_ok {t : State} {v : Word} (h : s.checked i = s.effect i) (heffect : s.effect i = .ok (t, v)) :
    exec i s = .next (t.ended 0x00 v) := by
  rw [exec_eq_checked, h, heffect]
  rfl

/-! The same for an effect that an operation of the state machine or of the self-test decides. -/

theorem exec_of_map_ok {r : Except ResultCode State} {t : State} (h : s.checked i = r.map fun t => (t, 0))
    (hr : r = .ok t) : exec i s = .next (t.ended 0x00 0) := by
  rw [exec_eq_checked, h, hr]
  rfl

theorem exec_of_map_error {r : Except ResultCode State} {code : ResultCode}
    (h : s.checked i = r.map fun t => (t, 0)) (hr : r = .error code) : exec i s = .next (s.ended code.code 0) := by
  rw [exec_eq_checked, h, hr]
  rfl

/-- R251: a satellite does not exist beyond MAX_SATS, or where none has been found. -/
theorem satPresent_eq_false_iff {a : Nat} :
    s.satPresent a = false ↔ s.cfg.maxSats ≤ a ∨ (s.sat a).present = false := by
  rw [State.satPresent, Bool.and_eq_false_iff, decide_eq_false_iff_not, Nat.not_lt]

/-- R267: an illegal opcode has no checks and its effect is the error. -/
theorem exec_of_illegal (s : State) (h : usedFields i = none) : exec i s = .next (s.ended 0x06 0) := by
  cases i with
  | illegal0f f | illegal1x lo f | illegal2x lo f | illegal4x lo f | illegal8x lo f => rfl
  | _ => cases h

theorem usedFields_of_opcode (opc : BitVec 8) (f : CmdFields) (h : 0x0F#8 ≤ opc) :
    usedFields (instrOfOpcode opc f) = none := by
  have hle : 15 ≤ opc.toNat := h
  unfold instrOfOpcode
  split
  case h_16 => rfl
  case h_17 =>
    split
    · rfl
    split
    · rfl
    split <;> rfl
  all_goals omega

end CommandTemplate

end Sys2Proof.Machine

section CommandTemplateStatements

open Sys2Proof Sys2Proof.Machine

/-- Settles O7, by the place of the satellite check in R250's template. -/
theorem absentSatelliteIsNotFound : Obligations.AbsentSatelliteIsNotFound := by
  intro s i hsat hword harg habsent
  have hadmits : s.admits i = true := Bool.and_eq_true_iff.mpr ⟨hword, harg⟩
  exact exec_of_absent hadmits hsat (satPresent_eq_false_iff.mpr habsent)

/-- Settles O5: each row of illegal opcodes uses no fields, and every OPC of at least 0x0F is in one of those rows. -/
theorem illegalOpcodesEndWithBadParameter : Obligations.IllegalOpcodesEndWithBadParameter := by
  intro s
  exact ⟨fun _ => exec_of_illegal s rfl, fun _ _ => exec_of_illegal s rfl, fun _ _ => exec_of_illegal s rfl,
    fun _ _ => exec_of_illegal s rfl, fun _ _ => exec_of_illegal s rfl,
    fun _ hopc => exec_of_illegal s (usedFields_of_opcode _ _ hopc)⟩

end CommandTemplateStatements

/-! # NOP and the frame field commands (spec/46_host_commands.md R252 to R255) -/

namespace Sys2Proof.Machine

section CommandEnds

variable (s : State) (code : Byte) (v : Word)

/-! ## The end of a command writes RESULT and RDATA alone -/

@[simp] theorem ended_host : (s.ended code v).host = { s.host with result := code, rdata := v } := rfl
@[simp] theorem ended_link : (s.ended code v).link = s.link := rfl
@[simp] theorem ended_sat (a : Nat) : (s.ended code v).sat a = s.sat a := rfl

end CommandEnds

section FrameFieldCommands

variable {s : State}

theorem unusedZero_all_iff (f : CmdFields) : f.unusedZero {} = true ↔ f = ⟨0, 0, 0, false, false, 0⟩ := by
  obtain ⟨sat, ch, kind, sel, rst, rsv⟩ := f
  simp [CmdFields.unusedZero]
  tauto

/-! ## One slot written -/

theorem slotsOnly_writeTx (a : Nat) (g : Slot → Slot) : SlotsOnly s ((s.writeTx a g).ended 0x00 0) := ⟨rfl, rfl⟩

theorem modifySlot_slot {a : Nat} (h : a < s.slots.length) (g : Slot → Slot) :
    (s.modifySlot a g).slot a = g (s.slot a) := by
  rw [slot_modifySlot, if_pos ⟨rfl, h⟩]

theorem writeTx_slot {a : Nat} (h : a < s.slots.length) (g : Slot → Slot) :
    (s.writeTx a g).slot a = { g (s.slot a) with txDirty := true } := modifySlot_slot h _

theorem modifySlot_slots_of_ne {a j : Nat} (g : Slot → Slot) (h : j ≠ a) :
    (s.modifySlot a g).slots[j]? = s.slots[j]? := congrArg Prod.snd ((modifySlot_local s a g).other j h)

theorem writeTx_slots_of_ne {a j : Nat} (g : Slot → Slot) (h : j ≠ a) :
    (s.writeTx a g).slots[j]? = s.slots[j]? := modifySlot_slots_of_ne _ h

/-- What a command leaves whose effect is a write of its satellite's slot. -/
theorem exec_writes_slot {i : Instr} {g : Slot → Slot} (hshape : s.Shape) (hadmits : s.admits i = true)
    (hpresent : s.satPresent i.fields.sat.toNat = true)
    (heffect : s.effect i = .ok (s.writeTx i.fields.sat.toNat g, 0)) :
    ∃ t, exec i s = .next t ∧ SlotsOnly s t
      ∧ t.slot i.fields.sat.toNat = { g (s.slot i.fields.sat.toNat) with txDirty := true }
      ∧ ∀ j, j ≠ i.fields.sat.toNat → t.slots[j]? = s.slots[j]? :=
  ⟨_, exec_of_effect_ok (checked_of_present hadmits hpresent) heffect, slotsOnly_writeTx _ _,
    writeTx_slot (present_slot_lt hshape hpresent) g, fun _ => writeTx_slots_of_ne g⟩

/-- One channel of four written. -/
theorem getElem_setChannel {α : Type} (x : Vector α 4) (ch : Nat) (v : α) (c : Fin 4) :
    (x.setIfInBounds ch v)[c] = if c.val = ch then v else x[c] := by
  simp [Vector.getElem_setIfInBounds, eq_comm]

/-! ## The operands out of range -/

theorem admits_setactval_iff (f : CmdFields) :
    s.admits (.setactval f) = true ↔
      ¬ (f.unusedZero { sat := true, ch := true } = false ∨ 3 < f.ch.toNat ∨ 256 ≤ s.host.arg.toNat) := by
  simp [State.admits, Instr.wellFormed, argInRange, CmdFields.channelLegal, and_assoc]

theorem admits_setactmode_iff (f : CmdFields) :
    s.admits (.setactmode f) = true ↔
      ¬ (f.unusedZero { sat := true, ch := true } = false ∨ 3 < f.ch.toNat ∨ 8 ≤ s.host.arg.toNat) := by
  simp [State.admits, Instr.wellFormed, argInRange, CmdFields.channelLegal, and_assoc]

theorem admits_setsaten_iff (f : CmdFields) :
    s.admits (.setsaten f) = true ↔ ¬ (f.unusedZero { sat := true } = false ∨ 2 ≤ s.host.arg.toNat) := by
  simp [State.admits, Instr.wellFormed, argInRange]

/-- ARG[0] of an ARG that is 0 or 1. -/
theorem getLsbD_zero_of_lt_two {x : Word} (h : x.toNat < 2) : x.getLsbD 0 = decide (x = 1) := by
  have hbit : x.toNat = 0 ∨ x.toNat = 1 := by omega
  rcases hbit with h0 | h1
  · rw [BitVec.eq_of_toNat_eq (y := 0#32) h0]
    rfl
  · rw [BitVec.eq_of_toNat_eq (y := 1#32) h1]
    rfl

end FrameFieldCommands

end Sys2Proof.Machine

section FrameFieldStatements

open Sys2Proof Sys2Proof.Machine

/-- Settles O11. -/
theorem nopOnlyReports : Obligations.NopOnlyReports := by
  intro s f
  have hadmits : s.admits (.nop f) = true ↔ ¬ f ≠ ⟨0, 0, 0, false, false, 0⟩ := by
    rw [admits_of_arg_ignored s rfl, not_not]
    exact unusedZero_all_iff f
  split
  case isTrue hzero => exact exec_of_effect_ok (checked_of_no_satellite (hadmits.mpr (not_not.mpr hzero)) rfl) rfl
  case isFalse hzero => exact exec_of_failed_check hadmits hzero

/-- Settles O12: the effect writes one channel of one slot. -/
theorem setActValWritesOneChannel : Obligations.SetActValWritesOneChannel := by
  intro s f hshape a bad
  have hadmits : s.admits (.setactval f) = true ↔ ¬ bad := admits_setactval_iff f
  refine ⟨exec_of_failed_check hadmits, fun h => exec_of_absent (hadmits.mpr h) rfl, fun h hpresent => ?_⟩
  obtain ⟨t, hexec, honly, hslot, hother⟩ := exec_writes_slot hshape (hadmits.mpr h) hpresent rfl
  refine ⟨t, hexec, honly, ?_⟩
  rw [show t.slot a = _ from hslot]
  exact ⟨getElem_setChannel _ _ _, rfl, rfl, hother⟩

/-- Settles O13: the effect writes one channel of one slot. -/
theorem setActModeWritesOneChannel : Obligations.SetActModeWritesOneChannel := by
  intro s f hshape a bad
  have hadmits : s.admits (.setactmode f) = true ↔ ¬ bad := admits_setactmode_iff f
  refine ⟨exec_of_failed_check hadmits, fun h => exec_of_absent (hadmits.mpr h) rfl, fun h hpresent => ?_⟩
  obtain ⟨t, hexec, honly, hslot, hother⟩ := exec_writes_slot hshape (hadmits.mpr h) hpresent rfl
  refine ⟨t, hexec, honly, ?_⟩
  rw [show t.slot a = _ from hslot]
  exact ⟨getElem_setChannel _ _ _, rfl, rfl, hother⟩

/-- Settles O14: an ARG that passes its check is 0 or 1, and its lowest bit says which. -/
theorem setSatEnWritesTheRequest : Obligations.SetSatEnWritesTheRequest := by
  intro s f hshape a bad
  have hadmits : s.admits (.setsaten f) = true ↔ ¬ bad := admits_setsaten_iff f
  refine ⟨exec_of_failed_check hadmits, fun h => exec_of_absent (hadmits.mpr h) rfl, fun h hpresent => ?_⟩
  have hbit : s.host.arg.getLsbD 0 = decide (s.host.arg = 1) :=
    getLsbD_zero_of_lt_two (Nat.not_le.mp fun harg => h (.inr harg))
  rw [← hbit]
  exact exec_writes_slot hshape (hadmits.mpr h) hpresent rfl

end FrameFieldStatements

/-! # The self-test and threshold commands (spec/46_host_commands.md R260 to R262) -/

namespace Sys2Proof.Machine

section TestCommands

variable {s : State} {a : Nat}

theorem admits_of_sat_alone {i : Instr} (hword : i.wellFormed = i.fields.unusedZero { sat := true })
    (harg : usesArg i = false) : s.admits i = true ↔ ¬ i.fields.unusedZero { sat := true } = false := by
  rw [admits_of_arg_ignored s harg, hword, Bool.not_eq_false]

/-! ## One satellite written -/

theorem modifySat_sat (h : a < s.sats.length) (g : Sat → Sat) : (s.modifySat a g).sat a = g (s.sat a) := by
  rw [sat_modifySat, if_pos ⟨rfl, h⟩]

theorem modifySat_sats_of_ne {j : Nat} (g : Sat → Sat) (h : j ≠ a) : (s.modifySat a g).sats[j]? = s.sats[j]? :=
  congrArg Prod.fst ((modifySat_local s a g).other j h)

/-! ## The start of a self-test (spec/45_selftest.md R230) -/

/-- The state in which the self-test of `a` has started. -/
def State.selftestStarted (s : State) (a : Nat) (implicit : Bool) : State :=
  (s.setTxReq a .srv true).modifySat a fun x =>
    { x with
      test := TestCounters.zero
      stPhase := .srv
      stCnt := BitVec.ofNat 16 s.cfg.selftestPhaseCycles
      stImplicit := implicit }

theorem selftestStart_of_running (implicit : Bool) (h : (s.sat a).stPhase ≠ .idle) :
    s.selftestStart a implicit = .error .busy := if_pos h

theorem selftestStart_of_not_working (implicit : Bool) (hidle : (s.sat a).stPhase = .idle) (h : (s.sat a).op ≠ 0) :
    s.selftestStart a implicit = .error .wrongState := by
  rw [State.selftestStart, if_neg (not_not.mpr hidle), if_pos h]

theorem selftestStart_of_working (implicit : Bool) (hidle : (s.sat a).stPhase = .idle) (h : (s.sat a).op = 0) :
    s.selftestStart a implicit = .ok (s.selftestStarted a implicit) := by
  rw [State.selftestStart, if_neg (not_not.mpr hidle), if_neg (not_not.mpr h)]
  rfl

theorem selftestStarted_sat (implicit : Bool) (h : a < s.sats.length) :
    (s.selftestStarted a implicit).sat a =
      { s.sat a with
        test := TestCounters.zero
        stPhase := .srv
        stCnt := BitVec.ofNat 16 s.cfg.selftestPhaseCycles
        stImplicit := implicit } := modifySat_sat (s := s.setTxReq a .srv true) h _

theorem selftestStarted_slot (implicit : Bool) (h : a < s.slots.length) :
    (s.selftestStarted a implicit).slot a =
      { s.slot a with txReq := { (s.slot a).txReq with srv := true }, txDirty := true } := writeTx_slot h _

theorem selftestStarted_of_ne (implicit : Bool) {j : Nat} (h : j ≠ a) :
    (s.selftestStarted a implicit).slots[j]? = s.slots[j]? ∧ (s.selftestStarted a implicit).sats[j]? = s.sats[j]? :=
  ⟨writeTx_slots_of_ne _ h, modifySat_sats_of_ne (s := s.setTxReq a .srv true) _ h⟩

/-! ## Threshold pairs -/

theorem admits_setlinkthres_iff (f : CmdFields) :
    s.admits (.setlinkthres f) = true ↔ f.unusedZero {} = true ∧ argLow s.host.arg < argHigh s.host.arg := by
  rw [admits_setlinkthres, Bool.and_eq_true, thresholdsOk, decide_eq_true_eq]
  rfl

theorem admits_setsatthres_iff (f : CmdFields) :
    s.admits (.setsatthres f) = true ↔
      f.unusedZero { sat := true } = true ∧ argLow s.host.arg < argHigh s.host.arg := by
  rw [admits_setsatthres, Bool.and_eq_true, thresholdsOk, decide_eq_true_eq, onlySat_eq_unusedZero]

/-- A field check and a threshold check both pass exactly where neither fails. -/
theorem zero_and_ordered_iff (zero : Bool) (low high : BitVec 16) :
    zero = true ∧ low < high ↔ ¬ (zero = false ∨ high ≤ low) := by
  rw [not_or, Bool.not_eq_false, BitVec.not_le]

end TestCommands

end Sys2Proof.Machine

section TestCommandStatements

open Sys2Proof Sys2Proof.Machine

/-- Settles O19, by what R230 asks of the satellite. -/
theorem selftestStartsOnAWorkingSatellite : Obligations.SelftestStartsOnAWorkingSatellite := by
  intro s f hshape a bad x
  have hadmits : s.admits (.selftest f) = true ↔ ¬ bad := admits_of_sat_alone rfl rfl
  have hchecked (h : ¬ bad) (hpresent : s.satPresent a = true) :
      s.checked (.selftest f) = (s.selftestStart a false).map fun t => (t, 0) :=
    checked_of_present (hadmits.mpr h) hpresent
  refine ⟨exec_of_failed_check hadmits, fun h => exec_of_absent (hadmits.mpr h) rfl,
    fun h hpresent hrunning => exec_of_map_error (hchecked h hpresent) (selftestStart_of_running false hrunning),
    fun h hpresent hidle hop => exec_of_map_error (hchecked h hpresent) (selftestStart_of_not_working false hidle hop),
    fun h hpresent hidle hop => ?_⟩
  exact ⟨_, exec_of_map_ok (hchecked h hpresent) (selftestStart_of_working false hidle hop), rfl,
    selftestStarted_sat false (present_lt hpresent).2, selftestStarted_slot false (present_slot_lt hshape hpresent),
    fun _ => selftestStarted_of_ne false, rfl⟩

/-- Settles O20: both commands check the pair and then write it. -/
theorem thresholdCommandsWriteOnePair : Obligations.ThresholdCommandsWriteOnePair := by
  intro s f _ a high low
  have hlink : s.admits (.setlinkthres f) = true ↔ f.unusedZero {} = true ∧ low < high := admits_setlinkthres_iff f
  have hsat : s.admits (.setsatthres f) = true ↔ f.unusedZero { sat := true } = true ∧ low < high :=
    admits_setsatthres_iff f
  refine ⟨exec_of_failed_check (hlink.trans (zero_and_ordered_iff _ _ _)), ?writesLink,
    exec_of_failed_check (hsat.trans (zero_and_ordered_iff _ _ _)), ?absent, ?writesSat⟩
  case writesLink =>
    intro hzero hlt
    exact exec_of_effect_ok (checked_of_no_satellite (hlink.mpr ⟨hzero, hlt⟩) rfl) rfl
  case absent =>
    intro hzero hlt
    exact exec_of_absent (hsat.mpr ⟨hzero, hlt⟩) rfl
  case writesSat =>
    intro hzero hlt hpresent
    exact ⟨_, exec_of_effect_ok (checked_of_present (hsat.mpr ⟨hzero, hlt⟩) hpresent) rfl, ⟨rfl, rfl⟩,
      modifySat_sat (present_lt hpresent).2 _, fun _ => modifySat_sats_of_ne _⟩

end TestCommandStatements

/-! # The read commands (spec/46_host_commands.md R263, R264, R266) -/

namespace Sys2Proof.Machine

section LinkCounterRead

variable {s : State}

/-! ## RDLINKCNT -/

/-- The KIND code of a link counter (spec/30_encoding.md R95). -/
def LinkKind.readCode : LinkKind → Nat
  | .sym => 0
  | .size => 1
  | .rxcrc => 2
  | .remcrc => 3
  | .wd => 4
  | .timing => 5

theorem linkKindOf_of_code {kind : BitVec 4} {k : LinkKind} (h : kind.toNat = k.readCode) :
    linkKindOf kind = some k := by
  rw [linkKindOf, h]
  cases k <;> rfl

theorem admits_rdlinkcnt_iff (f : CmdFields) :
    s.admits (.rdlinkcnt f) = true ↔ ¬ (f.unusedZero { kindSelRst := true } = false ∨ 5 < f.kind.toNat) := by
  simp [admits_of_arg_ignored s (i := .rdlinkcnt f) rfl, Instr.wellFormed, CmdFields.linkKindLegal]

/-- What a read of one link counter leaves: with RST that counter is 0. -/
def State.afterLinkRead (s : State) (k : LinkKind) (sel rst : Bool) : State :=
  if rst then s.clearLinkCounter k sel else s

theorem effect_rdlinkcnt {f : CmdFields} {k : LinkKind} (h : f.kind.toNat = k.readCode) :
    s.effect (.rdlinkcnt f) = .ok (s.afterLinkRead k f.sel f.rst, s.linkCounter k f.sel) := by
  rw [State.effect, linkKindOf_of_code h]
  rfl

variable (s) (k : LinkKind) (sel rst : Bool)

theorem afterLinkRead_cum (j : LinkKind) :
    (s.afterLinkRead k sel rst).link.cum.get j =
      if j = k ∧ rst = true ∧ sel = false then 0 else s.link.cum.get j := by
  cases rst <;> cases sel <;> simp [State.afterLinkRead, State.clearLinkCounter, LinkCounters.get_set]

theorem afterLinkRead_sec (j : LinkKind) :
    (s.afterLinkRead k sel rst).link.sec.get j =
      if j = k ∧ rst = true ∧ sel = true then 0 else s.link.sec.get j := by
  cases rst <;> cases sel <;> simp [State.afterLinkRead, State.clearLinkCounter, LinkCounters.get_set]

theorem afterLinkRead_frame (l : LinkRegs) : { s.afterLinkRead k sel rst with link := l } = { s with link := l } := by
  cases rst <;> cases sel <;> rfl

theorem afterLinkRead_link_frame (c d : LinkCounters) :
    { (s.afterLinkRead k sel rst).link with cum := c, sec := d } = { s.link with cum := c, sec := d } := by
  cases rst <;> cases sel <;> rfl

end LinkCounterRead

section SatCounterRead

variable {s : State}

/-! ## RDSATCNT -/

/-- The KIND code of a genuine satellite counter (spec/30_encoding.md R95). -/
def SatKind.readCode : SatKind → Nat
  | .rxcrc => 2
  | .remcrc => 3
  | .wd => 4

/-- The KIND code of a test-only counter (spec/30_encoding.md R95). -/
def TestCounterKind.readCode : TestCounterKind → Nat
  | .tremcrc => 6
  | .trxcrc => 7
  | .twd => 8

/-- The KIND code under which RDSATCNT reads a counter (spec/30_encoding.md R95). -/
def SatCounterSel.readCode : SatCounterSel → Nat
  | .cumulative k | .second k => k.readCode
  | .test c => c.readCode

/-- The SEL bit under which RDSATCNT reads a counter (spec/30_encoding.md R96). -/
def SatCounterSel.readSel : SatCounterSel → Bool
  | .second _ => true
  | .cumulative _ | .test _ => false

@[simp] theorem SatKind.readCode_inj {j k : SatKind} : j.readCode = k.readCode ↔ k = j := by
  cases j <;> cases k <;> decide

@[simp] theorem TestCounterKind.readCode_inj {b c : TestCounterKind} : b.readCode = c.readCode ↔ c = b := by
  cases b <;> cases c <;> decide

@[simp] theorem SatKind.readCode_ne_test (k : SatKind) (c : TestCounterKind) : k.readCode ≠ c.readCode := by
  cases k <;> cases c <;> decide

@[simp] theorem TestCounterKind.readCode_ne_sat (c : TestCounterKind) (k : SatKind) : c.readCode ≠ k.readCode :=
  (k.readCode_ne_test c).symm

/-- The counter that a KIND and SEL pair selects is the one read under that pair. -/
theorem code_of_satCounterOf {kind : BitVec 4} {sel : Bool} {c : SatCounterSel} (h : satCounterOf kind sel = some c) :
    kind.toNat = c.readCode ∧ sel = c.readSel := by
  unfold satCounterOf at h
  split at h <;> cases h <;> exact ⟨‹_›, rfl⟩

theorem admits_rdsatcnt_iff (f : CmdFields) :
    s.admits (.rdsatcnt f) = true ↔
      ¬ (f.unusedZero { sat := true, kindSelRst := true } = false
        ∨ ¬ ((2 ≤ f.kind.toNat ∧ f.kind.toNat ≤ 4) ∨ (6 ≤ f.kind.toNat ∧ f.kind.toNat ≤ 8 ∧ f.sel = false))) := by
  rw [admits_of_arg_ignored s (i := .rdsatcnt f) rfl, Instr.wellFormed, not_or, not_not]
  simp [CmdFields.satKindLegal, and_assoc]

/-- What a read of one counter of satellite `a` leaves: with RST that counter is 0. -/
def State.afterSatRead (s : State) (a : Nat) (c : SatCounterSel) (rst : Bool) : State :=
  if rst then s.modifySat a (·.clearCounter c) else s

/-- The same for the satellite. -/
def Sat.afterRead (x : Sat) (c : SatCounterSel) (rst : Bool) : Sat := if rst then x.clearCounter c else x

theorem afterSatRead_sat {a : Nat} (h : a < s.sats.length) (c : SatCounterSel) (rst : Bool) :
    (s.afterSatRead a c rst).sat a = (s.sat a).afterRead c rst := by
  cases rst with
  | false => rfl
  | true => exact modifySat_sat h _

theorem afterSatRead_sats_of_ne {a j : Nat} (c : SatCounterSel) (rst : Bool) (h : j ≠ a) :
    (s.afterSatRead a c rst).sats[j]? = s.sats[j]? := by
  cases rst with
  | false => rfl
  | true => exact modifySat_sats_of_ne _ h

theorem afterSatRead_frame (a : Nat) (c : SatCounterSel) (rst : Bool) (l : List Sat) :
    { s.afterSatRead a c rst with sats := l } = { s with sats := l } := by
  cases rst <;> rfl

/-- Where the checks pass, KIND and SEL select a counter, and the command reads that one. -/
theorem effect_rdsatcnt {f : CmdFields} (h : s.admits (.rdsatcnt f) = true) :
    ∃ c : SatCounterSel, f.kind.toNat = c.readCode ∧ f.sel = c.readSel ∧
      s.effect (.rdsatcnt f) =
        .ok (s.afterSatRead f.sat.toNat c f.rst, (s.sat f.sat.toNat).counter c) := by
  rw [admits_rdsatcnt, Bool.and_eq_true, Option.isSome_iff_exists] at h
  obtain ⟨-, c, hc⟩ := h
  obtain ⟨hkind, hsel⟩ := code_of_satCounterOf hc
  exact ⟨c, hkind, hsel, by rw [State.effect, hc]; rfl⟩

/-! The counter read, and the counters that a read with RST leaves. -/

section OneSatellite

variable (x : Sat) (c : SatCounterSel)

theorem counter_of_sat_code {k : SatKind} (h : c.readCode = k.readCode) :
    x.counter c = if c.readSel then x.sec.get k else x.cum.get k := by
  cases c with
  | cumulative j | second j =>
    cases SatKind.readCode_inj.mp h
    rfl
  | test t => exact absurd h (t.readCode_ne_sat k)

theorem counter_of_test_code {t : TestCounterKind} (h : c.readCode = t.readCode) : x.counter c = x.test.get t := by
  cases c with
  | cumulative j | second j => exact absurd h (j.readCode_ne_test t)
  | test u =>
    cases TestCounterKind.readCode_inj.mp h
    rfl

theorem afterRead_cum (rst : Bool) (k : SatKind) :
    (x.afterRead c rst).cum.get k =
      if c.readCode = k.readCode ∧ rst = true ∧ c.readSel = false then 0 else x.cum.get k := by
  cases rst with
  | false => simp [Sat.afterRead]
  | true =>
    cases c <;>
      simp [Sat.afterRead, Sat.clearCounter, SatCounters.get_set, SatCounterSel.readCode, SatCounterSel.readSel]

theorem afterRead_sec (rst : Bool) (k : SatKind) :
    (x.afterRead c rst).sec.get k =
      if c.readCode = k.readCode ∧ rst = true ∧ c.readSel = true then 0 else x.sec.get k := by
  cases rst with
  | false => simp [Sat.afterRead]
  | true =>
    cases c <;>
      simp [Sat.afterRead, Sat.clearCounter, SatCounters.get_set, SatCounterSel.readCode, SatCounterSel.readSel]

theorem afterRead_test (rst : Bool) (t : TestCounterKind) :
    (x.afterRead c rst).test.get t = if c.readCode = t.readCode ∧ rst = true then 0 else x.test.get t := by
  cases rst with
  | false => simp [Sat.afterRead]
  | true => cases c <;> simp [Sat.afterRead, Sat.clearCounter, TestCounters.get_set, SatCounterSel.readCode]

theorem afterRead_frame (rst : Bool) :
    { x.afterRead c rst with cum := x.cum, sec := x.sec, test := x.test } = x := by
  cases rst <;> cases c <;> rfl

end OneSatellite

end SatCounterRead

section StatusRead

/-! ## CONSUMESTATUS -/

/-- The STATUS word, flag by flag (spec/30_encoding.md R103). -/
theorem status_word (st : Status) :
    st.word.getLsbD 0 = st.watchdogError ∧ st.word.getLsbD 1 = st.remoteCrcError
      ∧ st.word.getLsbD 2 = st.rxCrcError ∧ st.word.getLsbD 3 = st.rxSymbolError
      ∧ st.word.getLsbD 4 = st.rxDataSizeError ∧ st.word.getLsbD 5 = st.dirty
      ∧ st.word.extractLsb' 6 26 = 0 := by
  obtain ⟨wd, rem, crc, sym, size, dirty⟩ := st
  revert wd rem crc sym size dirty
  decide

end StatusRead

end Sys2Proof.Machine

section ReadCommandStatements

open Sys2Proof Sys2Proof.Machine

/-- Settles O21: the KIND code names the counter that is read and, with RST, cleared. -/
theorem rdLinkCntReadsOneCounter : Obligations.RdLinkCntReadsOneCounter := by
  intro s f bad code
  have hadmits : s.admits (.rdlinkcnt f) = true ↔ ¬ bad := admits_rdlinkcnt_iff f
  refine ⟨exec_of_failed_check hadmits, fun k h (hcode : f.kind.toNat = k.readCode) => ?_⟩
  refine ⟨(s.afterLinkRead k f.sel f.rst).ended 0x00 (s.linkCounter k f.sel),
    exec_of_effect_ok (checked_of_no_satellite (hadmits.mpr h) rfl) (effect_rdlinkcnt hcode), ?host, ?cum, ?sec,
    fun j hj => ⟨?otherCum, ?otherSec⟩, afterLinkRead_link_frame s k f.sel f.rst _ _, ?frame⟩
  case host =>
    have hhost : (s.afterLinkRead k f.sel f.rst).host = s.host :=
      (congrArg State.host (afterLinkRead_frame s k f.sel f.rst s.link) :)
    rw [ended_host, hhost]
    rfl
  case cum => simp [afterLinkRead_cum]
  case sec => simp [afterLinkRead_sec]
  case otherCum => simp [afterLinkRead_cum, hj]
  case otherSec => simp [afterLinkRead_sec, hj]
  case frame =>
    exact (congrArg (State.setHost · s.host) (afterLinkRead_frame s k f.sel f.rst s.link) :)

/-- Settles O22: KIND and SEL select the counter that is read and, with RST, cleared. -/
theorem rdSatCntReadsOneCounter : Obligations.RdSatCntReadsOneCounter := by
  intro s f _ a x kind legal bad
  have hadmits : s.admits (.rdsatcnt f) = true ↔ ¬ bad := admits_rdsatcnt_iff f
  refine ⟨exec_of_failed_check hadmits, fun h => exec_of_absent (hadmits.mpr h) rfl, fun h hpresent => ?_⟩
  obtain ⟨c, hkind, hsel, heffect⟩ := effect_rdsatcnt (hadmits.mpr h)
  have hframe : { s.afterSatRead a c f.rst with sats := s.sats } = s := afterSatRead_frame a c f.rst s.sats
  have hsat : (s.afterSatRead a c f.rst).sat a = x.afterRead c f.rst := afterSatRead_sat (present_lt hpresent).2 c f.rst
  refine ⟨(s.afterSatRead a c f.rst).ended 0x00 (x.counter c), x.counter c,
    exec_of_effect_ok (checked_of_present (hadmits.mpr h) hpresent) heffect, ?host,
    (congrArg (State.setHost · s.host) hframe :), fun _ => afterSatRead_sats_of_ne c f.rst, ?others⟩
  case host =>
    have hhost : (s.afterSatRead a c f.rst).host = s.host := (congrArg State.host hframe :)
    rw [ended_host, hhost]
  case others =>
    rw [ended_sat, hsat, hsel, show kind = c.readCode from hkind]
    exact ⟨afterRead_frame x c f.rst, fun _ => counter_of_sat_code x c, fun _ => counter_of_test_code x c,
      afterRead_cum x c f.rst, afterRead_sec x c f.rst, afterRead_test x c f.rst⟩

/-- Settles O24: the word is read before dirty is cleared. -/
theorem consumeStatusReadsAndClearsDirty : Obligations.ConsumeStatusReadsAndClearsDirty := by
  intro s f hshape a bad st
  have hadmits : s.admits (.consumestatus f) = true ↔ ¬ bad := admits_of_sat_alone rfl rfl
  refine ⟨exec_of_failed_check hadmits, fun h => exec_of_absent (hadmits.mpr h) rfl, fun h hpresent => ?_⟩
  exact ⟨_, st.word, exec_of_effect_ok (checked_of_present (hadmits.mpr h) hpresent) rfl, rfl, rfl,
    modifySlot_slot (present_slot_lt hshape hpresent) _, fun _ => modifySlot_slots_of_ne _, status_word st⟩

end ReadCommandStatements

/-! # The administrative commands of the Link (spec/46_host_commands.md R256, R257)

What `opDeBlock` and `opBlock` of the Link do to the Link itself, and their frames; what they do to the satellites is
no matter of these commands. -/

namespace Sys2Proof.Machine

section LinkOperations

variable (s : State)

/-! ## The Link's own part of opDeBlock and opBlock (spec/44_state_machine.md R210, R212, R213) -/

theorem forEachSat_deblock_link (flag : OpState) : (s.forEachSat fun a t => t.deblockSat a flag).link = s.link :=
  forEachSat_keeps s State.link fun a t => deblockSat_link t a flag

theorem forEachSat_block_link (flag : OpState) : (s.forEachSat fun a t => t.blockOne (.sat a) flag).link = s.link :=
  forEachSat_keeps s State.link fun a t => blockOne_sat_link t a flag

theorem opDeBlock_link_link (flag : OpState) :
    (s.opDeBlock .link flag).link =
      { s.link with
        op := s.link.op &&& ~~~flag
        cum := if s.link.op ≠ 0 ∧ s.link.op &&& ~~~flag = 0 then LinkCounters.zero else s.link.cum
        sec := if s.link.op ≠ 0 ∧ s.link.op &&& ~~~flag = 0 then LinkCounters.zero else s.link.sec } := by
  unfold State.opDeBlock
  simp only [emit_link]
  split
  · simp [State.resetCounters, forEachSat_deblock_link]
  · rfl

theorem opDeBlock_link_frame (flag : OpState) (l : LinkRegs) (x : List Sat) (y : List Slot) (q : List Word) (o : Bool) :
    { s.opDeBlock .link flag with link := l, sats := x, slots := y, evq := q, evOvf := o }
      = { s with link := l, sats := x, slots := y, evq := q, evOvf := o } := by
  simp

theorem opBlock_link_link (flag : OpState) :
    (s.opBlock .link flag).link = { s.link with op := s.link.op ||| flag } := by
  unfold State.opBlock
  simp only []
  split <;> split <;> simp [forEachSat_block_link]

/-- Only FAIL and ERROR_SECOND arm the re-establishment timer, which reads the clock (R220). -/
theorem opBlock_link_of_no_timer {flag : OpState} (hflag : hasBit flag (opFail ||| opErrorSecond) = false) :
    (s.opBlock .link flag).reest = s.reest ∧ (s.opBlock .link flag).env = s.env := by
  have hreest := forEachSat_keeps s State.reest (g := fun a t => t.blockOne (.sat a) opControlBlocked) (by simp)
  have henv := forEachSat_keeps s State.env (g := fun a t => t.blockOne (.sat a) opControlBlocked) (by simp)
  have hblock : s.opBlock .link flag =
      (if s.link.op = 0 then s.forEachSat fun a t => t.blockOne (.sat a) opControlBlocked else s).blockOne .link
        flag := by
    rw [State.opBlock, hflag]
    rfl
  rw [hblock, blockOne_reest, blockOne_env]
  split
  · exact ⟨hreest, henv⟩
  · exact ⟨rfl, rfl⟩

theorem opBlock_link_frame {flag : OpState} (hflag : hasBit flag (opFail ||| opErrorSecond) = false) (l : LinkRegs)
    (x : List Sat) (y : List Slot) (q : List Word) (o : Bool) :
    { s.opBlock .link flag with link := l, sats := x, slots := y, evq := q, evOvf := o }
      = { s with link := l, sats := x, slots := y, evq := q, evOvf := o } := by
  obtain ⟨hreest, henv⟩ := opBlock_link_of_no_timer s hflag
  simp [hreest, henv]

end LinkOperations

section LinkAdministration

variable {s : State}

/-! ## The checks of R215 and R216 for the Link -/

theorem admDeBlock_link_of_enabled (h : s.link.adm = .enable) : s.admDeBlock .link = .error .wrongState := by
  rw [State.admDeBlock, State.adm, h]
  rfl

theorem admDeBlock_link_of_disabled (h : s.link.adm = .disable) :
    s.admDeBlock .link = .ok (((s.setAdm .link .enable).opDeBlock .link opDisabled).afterDeBlock .link) := by
  rw [State.admDeBlock, State.adm, h]
  rfl

theorem someSatEnabled_iff : s.someSatEnabled = true ↔ ∃ a, s.satPresent a = true ∧ (s.sat a).adm = .enable := by
  simp only [State.someSatEnabled, State.addresses, List.any_eq_true, List.mem_range, Bool.and_eq_true,
    decide_eq_true_eq]
  exact ⟨fun ⟨a, _, h⟩ => ⟨a, h⟩, fun ⟨a, hpresent, hadm⟩ => ⟨a, (present_lt hpresent).1, hpresent, hadm⟩⟩

theorem admBlock_link_of_disabled (h : s.link.adm = .disable) : s.admBlock .link = .error .wrongState := by
  rw [State.admBlock, State.adm, h]
  rfl

theorem admBlock_link_of_held (h : s.link.adm = .enable) (hheld : s.someSatEnabled = true) :
    s.admBlock .link = .error .dependencyNotBlocked := by
  rw [State.admBlock, State.adm, h, hheld]
  rfl

theorem admBlock_link_of_free (h : s.link.adm = .enable) (hfree : s.someSatEnabled = false) :
    s.admBlock .link = .ok ((s.setAdm .link .disable).opBlock .link opDisabled) := by
  rw [State.admBlock, State.adm, h, hfree]
  rfl

theorem admits_of_opcode_alone {i : Instr} (hword : i.wellFormed = i.fields.unusedZero {})
    (harg : usesArg i = false) : s.admits i = true ↔ ¬ i.fields.unusedZero {} = false := by
  rw [admits_of_arg_ignored s harg, hword, Bool.not_eq_false]

end LinkAdministration

end Sys2Proof.Machine

section LinkAdministrationStatements

open Sys2Proof Sys2Proof.Machine

/-- Settles O15: the command is R216 for the Link, and `opDeBlock` clears DISABLED. -/
theorem linkEnableRequestsDiscovery : Obligations.LinkEnableRequestsDiscovery := by
  intro s f bad
  have hadmits : s.admits (.linkenable f) = true ↔ ¬ bad := admits_of_opcode_alone rfl rfl
  have hchecked (h : ¬ bad) : s.checked (.linkenable f) = (s.admDeBlock .link).map fun t => (t, 0) :=
    checked_of_no_satellite (hadmits.mpr h) rfl
  refine ⟨exec_of_failed_check hadmits,
    fun h henabled => exec_of_map_error (hchecked h) (admDeBlock_link_of_enabled henabled), fun h hdisabled => ?_⟩
  let u := (s.setAdm .link .enable).opDeBlock .link opDisabled
  have hlink := opDeBlock_link_link (s.setAdm .link .enable) opDisabled
  have hdisc : u.disc = s.disc := opDeBlock_disc _ _ _
  have hframe := opDeBlock_link_frame (s.setAdm .link .enable) opDisabled s.link s.sats s.slots s.evq s.evOvf
  exact ⟨_, exec_of_map_ok (hchecked h) (admDeBlock_link_of_disabled hdisabled),
    congrArg (fun d : DiscRegs => (u.setDisc { d with pending := true }).ended 0x00 0) hdisc,
    (congrArg LinkRegs.adm hlink :), (congrArg LinkRegs.op hlink :), rfl,
    (congrArg (fun t : State => (t.setHost s.host).setDisc s.disc) hframe :)⟩

/-- Settles O16: the command is R215 for the Link, and `opBlock` sets DISABLED, which arms no timer. -/
theorem linkDisableNeedsDisabledSatellites : Obligations.LinkDisableNeedsDisabledSatellites := by
  intro s f bad held
  have hadmits : s.admits (.linkdisable f) = true ↔ ¬ bad := admits_of_opcode_alone rfl rfl
  have hheld : s.someSatEnabled = true ↔ held := someSatEnabled_iff
  have hchecked (h : ¬ bad) : s.checked (.linkdisable f) = (s.admBlock .link).map fun t => (t, 0) :=
    checked_of_no_satellite (hadmits.mpr h) rfl
  refine ⟨exec_of_failed_check hadmits,
    fun h hdisabled => exec_of_map_error (hchecked h) (admBlock_link_of_disabled hdisabled),
    fun h henabled hsat => exec_of_map_error (hchecked h) (admBlock_link_of_held henabled (hheld.mpr hsat)),
    fun h henabled hnone => ?_⟩
  have hfree : s.someSatEnabled = false := Bool.eq_false_iff.mpr fun hsat => hnone (hheld.mp hsat)
  have hlink := opBlock_link_link (s.setAdm .link .disable) opDisabled
  have hframe := opBlock_link_frame (s.setAdm .link .disable) (flag := opDisabled) rfl s.link s.sats s.slots s.evq
    s.evOvf
  exact ⟨_, exec_of_map_ok (hchecked h) (admBlock_link_of_free henabled hfree), rfl,
    (congrArg LinkRegs.adm hlink :), (congrArg LinkRegs.op hlink :), (congrArg (State.setHost · s.host) hframe :)⟩

end LinkAdministrationStatements

/-! # The encoding of the commands (spec/30_encoding.md R91, R92, R99, spec/20_memory.md R63)

The word of a command is its opcode and its fields laid one beside the other, so reading each back is a matter of
widths; and the opcode alone decides which command it is. -/

namespace Sys2Proof

section CommandWords

variable (opc : BitVec 8) (f : CmdFields) (w : Word)

/-! ## The fields of a word (R91) -/

/-- Neighbouring parts of a word, put together again. -/
theorem extract_append_extract {n : Nat} (w : BitVec n) {start len len' : Nat} :
    w.extractLsb' (start + len) len' ++ w.extractLsb' start len = w.extractLsb' start (len' + len) :=
  BitVec.extractLsb'_append_extractLsb'_eq_extractLsb' rfl

theorem ofBool_getLsbD {n : Nat} (w : BitVec n) (i : Nat) : BitVec.ofBool (w.getLsbD i) = w.extractLsb' i 1 := by
  refine BitVec.eq_of_getLsbD_eq fun j hj => ?_
  obtain rfl : j = 0 := by omega
  simp

theorem cmdWord_of_fields : cmdWord (w.extractLsb' 0 8) (cmdFieldsOf w) = w := by
  simp only [cmdFieldsOf, cmdWord, ofBool_getLsbD]
  rw [extract_append_extract w (start := 25) (len := 1), extract_append_extract w (start := 24) (len := 1),
    extract_append_extract w (start := 20) (len := 4), extract_append_extract w (start := 16) (len := 4),
    extract_append_extract w (start := 8) (len := 8), extract_append_extract w (start := 0) (len := 8)]
  exact BitVec.extractLsb'_eq_self

/-- The parts of a command word stand side by side, so the word determines them. -/
theorem cmdWord_injective {opc opc' : BitVec 8} {f f' : CmdFields} (h : cmdWord opc f = cmdWord opc' f') :
    opc = opc' ∧ f = f' := by
  obtain ⟨sat, ch, kind, sel, rst, rsv⟩ := f
  obtain ⟨sat', ch', kind', sel', rst', rsv'⟩ := f'
  have hparts : (rsv ++ BitVec.ofBool rst ++ BitVec.ofBool sel ++ kind ++ ch ++ sat ++ opc : BitVec (6 + 1 + 1 + 4 + 4 + 8 + 8))
      = rsv' ++ BitVec.ofBool rst' ++ BitVec.ofBool sel' ++ kind' ++ ch' ++ sat' ++ opc' := h
  simp only [Laws.EncodeInRow.append_eq_append] at hparts
  obtain ⟨⟨⟨⟨⟨⟨hrsv, hrst⟩, hsel⟩, hkind⟩, hch⟩, hsat⟩, hopc⟩ := hparts
  refine ⟨hopc, ?_⟩
  rw [hsat, hch, hkind, hrsv, BitVec.ofBool_eq_iff_eq.mp hrst, BitVec.ofBool_eq_iff_eq.mp hsel]

/-- Decoding the word of an opcode and fields is the choice of the command by that opcode. -/
theorem decodeWord_cmdWord : decodeWord (cmdWord opc f) = instrOfOpcode opc f := by
  obtain ⟨hopc, hf⟩ := cmdWord_injective (cmdWord_of_fields (cmdWord opc f))
  rw [decodeWord, hopc, hf]

theorem append_wordBytes :
    w.extractLsb' 24 8 ++ w.extractLsb' 16 8 ++ w.extractLsb' 8 8 ++ w.extractLsb' 0 8 = w := by
  rw [extract_append_extract w (start := 16) (len := 8), extract_append_extract w (start := 8) (len := 8),
    extract_append_extract w (start := 0) (len := 8)]
  exact BitVec.extractLsb'_eq_self

/-- R63, R99: the four bytes of a word, lane 0 first, decode as the word. -/
theorem decodeBytes_wordBytes : decodeBytes (wordBytes w) = .ok (decodeWord w) :=
  congrArg (fun v => Except.ok (decodeWord v)) (append_wordBytes w)

/-! ## The opcode and the command (R92, R267) -/

theorem append_of_opcode1x : ∀ opc : BitVec 8, 16 ≤ opc.toNat → opc.toNat < 32 →
    0x1#4 ++ opc.extractLsb' 0 4 = opc := by decide

theorem append_of_opcode2x : ∀ opc : BitVec 8, 32 ≤ opc.toNat → opc.toNat < 64 →
    0x1#3 ++ opc.extractLsb' 0 5 = opc := by decide

theorem append_of_opcode4x : ∀ opc : BitVec 8, 64 ≤ opc.toNat → opc.toNat < 128 →
    0x1#2 ++ opc.extractLsb' 0 6 = opc := by decide

theorem append_of_opcode8x : ∀ opc : BitVec 8, 128 ≤ opc.toNat → 0x1#1 ++ opc.extractLsb' 0 7 = opc := by decide

theorem instrOfOpcode_of_high {opc : BitVec 8} (h : 16 ≤ opc.toNat) :
    instrOfOpcode opc f =
      if opc.toNat < 0x20 then .illegal1x (opc.extractLsb' 0 4) f
      else if opc.toNat < 0x40 then .illegal2x (opc.extractLsb' 0 5) f
      else if opc.toNat < 0x80 then .illegal4x (opc.extractLsb' 0 6) f
      else .illegal8x (opc.extractLsb' 0 7) f := by
  unfold instrOfOpcode
  split
  case h_17 => rfl
  all_goals omega

theorem fields_instrOfOpcode : (instrOfOpcode opc f).fields = f := by
  unfold instrOfOpcode
  split
  case h_17 =>
    split
    · rfl
    split
    · rfl
    split <;> rfl
  all_goals rfl

theorem opcode_instrOfOpcode : (instrOfOpcode opc f).opcode = opc := by
  by_cases hhigh : 16 ≤ opc.toNat
  · rw [instrOfOpcode_of_high f hhigh]
    split
    · exact append_of_opcode1x opc hhigh ‹_›
    split
    · exact append_of_opcode2x opc (by omega) ‹_›
    split
    · exact append_of_opcode4x opc (by omega) ‹_›
    · exact append_of_opcode8x opc (by omega)
  · unfold instrOfOpcode
    split
    case h_17 =>
      simp only [imp_false] at *
      omega
    all_goals exact BitVec.eq_of_toNat_eq (Eq.symm ‹_›)

theorem instrOfOpcode_opcode (i : Instr) : instrOfOpcode i.opcode i.fields = i := by
  cases i with
  | illegal1x lo f =>
    have hopc : ∀ lo : BitVec 4, 16 ≤ (0x1#4 ++ lo).toNat ∧ (0x1#4 ++ lo).toNat < 32 := by decide
    obtain ⟨hlow, hhigh⟩ := hopc lo
    simp only [Instr.opcode, Instr.fields]
    rw [instrOfOpcode_of_high f hlow, if_pos hhigh, BitVec.extractLsb'_append_eq_right]
  | illegal2x lo f =>
    have hopc : ∀ lo : BitVec 5, 32 ≤ (0x1#3 ++ lo).toNat ∧ (0x1#3 ++ lo).toNat < 64 := by decide
    obtain ⟨hlow, hhigh⟩ := hopc lo
    simp only [Instr.opcode, Instr.fields]
    rw [instrOfOpcode_of_high f (by omega), if_neg (by omega), if_pos hhigh, BitVec.extractLsb'_append_eq_right]
  | illegal4x lo f =>
    have hopc : ∀ lo : BitVec 6, 64 ≤ (0x1#2 ++ lo).toNat ∧ (0x1#2 ++ lo).toNat < 128 := by decide
    obtain ⟨hlow, hhigh⟩ := hopc lo
    simp only [Instr.opcode, Instr.fields]
    rw [instrOfOpcode_of_high f (by omega), if_neg (by omega), if_neg (by omega), if_pos hhigh,
      BitVec.extractLsb'_append_eq_right]
  | illegal8x lo f =>
    have hopc : ∀ lo : BitVec 7, 128 ≤ (0x1#1 ++ lo).toNat := by decide
    have hlow := hopc lo
    simp only [Instr.opcode, Instr.fields]
    rw [instrOfOpcode_of_high f (by omega), if_neg (by omega), if_neg (by omega), if_neg (by omega),
      BitVec.extractLsb'_append_eq_right]
  | _ => rfl

theorem decodeWord_encode (i : Instr) : decodeWord (encode i) = i := by
  rw [encode, decodeWord_cmdWord, instrOfOpcode_opcode]

theorem encode_decodeWord : encode (decodeWord w) = w := by
  rw [encode, decodeWord, opcode_instrOfOpcode, fields_instrOfOpcode, cmdWord_of_fields]

/-- A table word of 32 bits is that word, taken apart and put together again. -/
theorem decodeTableWord_toNat : decodeTableWord 32 w.toNat = some (decodeWord w) := by
  have hmod : w.toNat % 2 ^ 32 = w.toNat := Nat.mod_eq_of_lt w.isLt
  rw [decodeTableWord, hmod, if_pos w.isLt, BitVec.ofNat_toNat, BitVec.setWidth_eq, decodeBytes_wordBytes]
  rfl

end CommandWords

end Sys2Proof

namespace Sys2Proof.Machine

section CommandFetch

variable (s : State)

/-! ## How a command is reached (spec/20_memory.md R65, spec/46_host_commands.md R250) -/

theorem inputTaken_env_frame : { s.inputTaken with env := s.env } = s := inputTaken_frame s s.env

/-- R65: the step in which the host writes a command's word to CMD is the command. -/
theorem step_of_command {s : State} {i : Instr} (h : s.input = .host (.write 0x00 4 (encode i))) :
    step s = exec i s.inputTaken := by
  rw [step_access h, hostAccess_write_cmd, decodeWord_encode]

theorem pushCommand_input (w : Word) : (s.pushCommand w).input = .host (.write 0x00 4 w) := rfl

theorem pushCommand_inputTaken (w : Word) : (s.pushCommand w).inputTaken = s := rfl

theorem step_withFetchWord (i : Instr) : step (s.withFetchWord 32 (encode i).toNat) = exec i s := by
  have hword : BitVec.ofNat 32 ((encode i).toNat % 2 ^ 32) = encode i := by
    rw [Nat.mod_eq_of_lt (encode i).isLt, BitVec.ofNat_toNat, BitVec.setWidth_eq]
  rw [State.withFetchWord, hword, step_of_command (pushCommand_input s _), pushCommand_inputTaken]

end CommandFetch

end Sys2Proof.Machine

section CommandWordStatements

open Sys2Proof Sys2Proof.Machine

/-- Settles O1: the word gives back the opcode and the fields, and they make up the command. -/
theorem decodeOfEncode : Obligations.DecodeOfEncode := by
  intro i
  refine ⟨decodeWord_encode i, ?_⟩
  rw [decodeBytes_wordBytes, decodeWord_encode]

/-- Settles O2: the command of a word keeps its opcode and its fields. -/
theorem encodeOfDecode : Obligations.EncodeOfDecode :=
  fun w => ⟨encode_decodeWord w, decodeTableWord_toNat w⟩

/-- Settles O3: eight closed words. -/
theorem wordsOfTheSpecDecode : Obligations.WordsOfTheSpecDecode := by
  unfold Obligations.WordsOfTheSpecDecode
  decide

/-- Settles O4. -/
theorem stepRunsTheDecodedCommand : Obligations.StepRunsTheDecodedCommand :=
  ⟨inputTaken_env_frame, fun _ _ => step_of_command, step_withFetchWord⟩

end CommandWordStatements

/-! # The laws of the CRC (spec/40_frame_codec.md R120) -/

namespace Sys2Proof.Machine

section CrcLaws

variable (b d : FrameWord)

theorem crcCoveredBits_xor :
    crcCoveredBits (b ^^^ d) = List.zipWith (fun x y => x ^^ y) (crcCoveredBits b) (crcCoveredBits d) := by
  simp only [crcCoveredBits, List.zipWith_map, List.zipWith_self, BitVec.getLsbD_xor]

theorem crc4_xor : crc4 .direct (b ^^^ d) false = crc4 .direct b false ^^^ crc4 .direct d false := by
  have hlength : (crcCoveredBits b).length = (crcCoveredBits d).length := by
    rw [crcCoveredBits_length, crcCoveredBits_length]
  have hfold := crcFold_xor (crcCoveredBits b) (crcCoveredBits d) hlength 0#5 0#5
  rw [← crcCoveredBits_xor, BitVec.xor_zero] at hfold
  simp only [crc4, hfold, BitVec.extractLsb'_xor, Bool.false_eq_true, if_false]

/-- Bits that are 0 leave an accumulator of 0, and never bring the CRC to 0. -/
theorem crcFold_zeros (n : Nat) : (List.replicate n false).foldl (crcStep .direct) 0#5 = 0#5 := by
  induction n with
  | zero => rfl
  | succ n ih => exact ih

theorem crcStep_zero_ne_zero : ∀ a : BitVec 5, a.extractLsb' 0 4 ≠ 0 →
    (crcStep .direct a false).extractLsb' 0 4 ≠ 0 := by
  unfold crcStep
  decide

theorem crcFold_zeros_ne_zero (n : Nat) {a : BitVec 5} (h : a.extractLsb' 0 4 ≠ 0) :
    ((List.replicate n false).foldl (crcStep .direct) a).extractLsb' 0 4 ≠ 0 := by
  induction n generalizing a with
  | zero => exact h
  | succ n ih => exact ih (crcStep_zero_ne_zero a h)

theorem crcCoveredBits_oneBit {i : Nat} (hlow : 4 ≤ i) (hi : i < 64) :
    crcCoveredBits (1#64 <<< i) = List.replicate (63 - i) false ++ true :: List.replicate (i - 4) false := by
  refine List.ext_getElem (by simp [crcCoveredBits]; omega) fun k hk _ => ?_
  have hk60 : k < 60 := by simpa [crcCoveredBits] using hk
  simp only [crcCoveredBits, List.getElem_map, List.getElem_range, List.getElem_append, List.length_replicate,
    List.getElem_replicate, List.getElem_cons, BitVec.getLsbD_shiftLeft, BitVec.getLsbD_one]
  split
  · simp; omega
  split
  · simp; omega
  · simp; omega

/-- The frame of one covered bit has a CRC that is not 0. -/
theorem crc4_oneBit {i : Nat} (hlow : 4 ≤ i) (hi : i < 64) : crc4 .direct (1#64 <<< i) false ≠ 0 := by
  have hstart : (crcStep .direct 0#5 true).extractLsb' 0 4 ≠ 0 := by decide
  rw [crc4, crcCoveredBits_oneBit hlow hi, List.foldl_append, crcFold_zeros, List.foldl_cons]
  exact crcFold_zeros_ne_zero _ hstart

theorem crc4_flip {i : Nat} (hlow : 4 ≤ i) (hi : i < 64) :
    crc4 .direct (b ^^^ (1#64 <<< i)) false ≠ crc4 .direct b false := by
  rw [crc4_xor]
  intro h
  exact crc4_oneBit hlow hi (by simpa using h)

end CrcLaws

end Sys2Proof.Machine

section CrcLawStatement

open Sys2Proof Sys2Proof.Machine

/-- Settles O31: linearity, from which one flipped bit changes the CRC by that of the bit alone. -/
theorem crcIsLinear : Obligations.CrcIsLinear :=
  ⟨crc4_xor, by decide +kernel, by decide +kernel, fun b _ => crc4_flip b⟩

end CrcLawStatement

/-! # The frame codec (spec/30_encoding.md R83, spec/40_frame_codec.md R113 to R119)

A layout moves the bits 8 to 63 of a frame and leaves byte 7 in place: what stands at a bit after `toLayout` and after
`ofLayout` is said bit by bit, and for a layout that places no two bits at one position the second undoes the first.
The fields of the default layout stand side by side, so a frame and its fields determine each other. -/

namespace Sys2Proof.Machine

section Layouts

open Sys2Proof.Config (layoutLegal defaultLayout)

variable {l : List Nat}

/-- What FRAME_LAYOUT has to be (spec/00_scope.md R6). -/
theorem layoutLegal_iff : layoutLegal l = true ↔ l.length = 56 ∧ (∀ p ∈ l, 8 ≤ p ∧ p < 64) ∧ l.Nodup := by
  simp [layoutLegal, and_assoc]

/-- A bit of a placed frame is that of the bit which the layout puts there. -/
theorem placeBits_getLsbD (l : List Nat) (j : Nat) (w : FrameWord) {i : Nat} (hi : i < 64) :
    (placeBits l j w).getLsbD i = true ↔ ∃ k, l[k]? = some i ∧ w.getLsbD (j + k) = true := by
  induction l generalizing j with
  | nil => simp [placeBits]
  | cons p ps ih =>
    have hbit : (if w.getLsbD j then 1#64 <<< p else 0).getLsbD i = true ↔ p = i ∧ w.getLsbD j = true := by
      split
      · rename_i hw
        simp only [BitVec.getLsbD_shiftLeft, BitVec.getLsbD_one, hw, and_true]
        simp
        omega
      · simp_all
    rw [placeBits, BitVec.getLsbD_or, Bool.or_eq_true, hbit, ih (j + 1)]
    constructor
    · rintro (⟨rfl, hw⟩ | ⟨k, hk, hw⟩)
      · exact ⟨0, rfl, hw⟩
      · exact ⟨k + 1, hk, by rwa [Nat.add_right_comm] at hw⟩
    · rintro ⟨k, hk, hw⟩
      cases k with
      | zero => exact .inl ⟨by simpa using hk, hw⟩
      | succ k => exact .inr ⟨k, hk, by rwa [Nat.add_right_comm]⟩

/-- A bit of a gathered frame is that of the position from which the layout takes it. -/
theorem gatherBits_getLsbD (l : List Nat) (j : Nat) (w : FrameWord) {i : Nat} (hi : i < 64) :
    (gatherBits l j w).getLsbD i = true ↔ ∃ k p, l[k]? = some p ∧ i = j + k ∧ w.getLsbD p = true := by
  induction l generalizing j with
  | nil => simp [gatherBits]
  | cons p ps ih =>
    have hbit : (if w.getLsbD p then 1#64 <<< j else 0).getLsbD i = true ↔ i = j ∧ w.getLsbD p = true := by
      split
      · rename_i hw
        simp only [BitVec.getLsbD_shiftLeft, BitVec.getLsbD_one, hw, and_true]
        simp
        omega
      · simp_all
    rw [gatherBits, BitVec.getLsbD_or, Bool.or_eq_true, hbit, ih (j + 1)]
    constructor
    · rintro (⟨rfl, hw⟩ | ⟨k, q, hk, rfl, hw⟩)
      · exact ⟨0, p, rfl, rfl, hw⟩
      · exact ⟨k + 1, q, hk, by omega, hw⟩
    · rintro ⟨k, q, hk, rfl, hw⟩
      cases k with
      | zero =>
        obtain rfl : p = q := by simpa using hk
        exact .inl ⟨rfl, hw⟩
      | succ k => exact .inr ⟨k, q, hk, by omega, hw⟩

theorem getLsbD_byte7 (w : FrameWord) {i : Nat} (hi : i < 64) :
    (w &&& 0xFF#64).getLsbD i = true ↔ i < 8 ∧ w.getLsbD i = true := by
  have hmask : ∀ i < 64, (0xFF#64).getLsbD i = decide (i < 8) := by decide
  rw [BitVec.getLsbD_and, hmask i hi, Bool.and_eq_true, decide_eq_true_eq, and_comm]

theorem toLayout_getLsbD (l : List Nat) (w : FrameWord) {i : Nat} (hi : i < 64) :
    (toLayout l w).getLsbD i = true ↔
      (i < 8 ∧ w.getLsbD i = true) ∨ ∃ k, l[k]? = some i ∧ w.getLsbD (8 + k) = true := by
  rw [toLayout, BitVec.getLsbD_or, Bool.or_eq_true, getLsbD_byte7 w hi, placeBits_getLsbD l 8 w hi]

theorem ofLayout_getLsbD (l : List Nat) (w : FrameWord) {i : Nat} (hi : i < 64) :
    (ofLayout l w).getLsbD i = true ↔
      (i < 8 ∧ w.getLsbD i = true) ∨ ∃ k p, l[k]? = some p ∧ i = 8 + k ∧ w.getLsbD p = true := by
  rw [ofLayout, BitVec.getLsbD_or, Bool.or_eq_true, getLsbD_byte7 w hi, gatherBits_getLsbD l 8 w hi]

/-- Byte 7 stays where it is in every layout (R82). -/
theorem toLayout_low (h : layoutLegal l = true) (w : FrameWord) {i : Nat} (hi : i < 8) :
    (toLayout l w).getLsbD i = w.getLsbD i := by
  obtain ⟨-, hrange, -⟩ := layoutLegal_iff.mp h
  rw [Bool.eq_iff_iff, toLayout_getLsbD l w (by omega)]
  constructor
  · rintro (⟨-, hw⟩ | ⟨k, hk, -⟩)
    · exact hw
    · have := hrange i (List.mem_of_getElem? hk)
      omega
  · exact fun hw => .inl ⟨hi, hw⟩

/-- The default layout moves nothing. -/
theorem toLayout_default (w : FrameWord) : toLayout defaultLayout w = w := by
  refine BitVec.eq_of_getLsbD_eq fun i hi => ?_
  rw [Bool.eq_iff_iff, toLayout_getLsbD _ w hi]
  constructor
  · rintro (⟨-, hw⟩ | ⟨k, hk, hw⟩)
    · exact hw
    · obtain ⟨j, hj, rfl⟩ : ∃ j, (List.range 56)[k]? = some j ∧ j + 8 = i := by simpa [defaultLayout] using hk
      obtain ⟨-, rfl⟩ := List.getElem?_eq_some_iff.mp hj
      rwa [List.getElem_range, Nat.add_comm]
  · intro hw
    by_cases hlow : i < 8
    · exact .inl ⟨hlow, hw⟩
    · refine .inr ⟨i - 8, ?_, by rwa [Nat.add_sub_cancel' (by omega)]⟩
      have h56 : i - 8 < 56 := by omega
      simp [defaultLayout, h56]
      omega

/-- A layout that is legal can be undone. -/
theorem ofLayout_toLayout (h : layoutLegal l = true) (w : FrameWord) : ofLayout l (toLayout l w) = w := by
  obtain ⟨hlength, hrange, hnodup⟩ := layoutLegal_iff.mp h
  refine BitVec.eq_of_getLsbD_eq fun i hi => ?_
  rw [Bool.eq_iff_iff, ofLayout_getLsbD _ _ hi]
  constructor
  · rintro (⟨hlow, hw⟩ | ⟨k, p, hk, rfl, hw⟩)
    · rwa [toLayout_low h w hlow] at hw
    · have hp := hrange p (List.mem_of_getElem? hk)
      rw [toLayout_getLsbD l w hp.2] at hw
      obtain ⟨hlt, -⟩ | ⟨k', hk', hw'⟩ := hw
      · omega
      · have hkl : k < l.length := (List.getElem?_eq_some_iff.mp hk).1
        rwa [(List.getElem?_inj hkl hnodup).mp (hk.trans hk'.symm)]
  · intro hw
    by_cases hlow : i < 8
    · exact .inl ⟨hlow, by rwa [toLayout_low h w hlow]⟩
    · have hk : i - 8 < l.length := by omega
      have hsome : l[i - 8]? = some l[i - 8] := List.getElem?_eq_getElem hk
      refine .inr ⟨i - 8, l[i - 8], hsome, by omega, ?_⟩
      rw [toLayout_getLsbD l w (hrange _ (List.getElem_mem hk)).2]
      exact .inr ⟨i - 8, hsome, by rwa [Nat.add_sub_cancel' (by omega)]⟩

end Layouts

section Fields

variable (f : WireFrame) (w : FrameWord)

/-! ## The fields side by side (R83) -/

theorem packDefault_unpackDefault : packDefault (unpackDefault w) = w := by
  simp only [packDefault, unpackDefault, ofBool_getLsbD]
  show w.extractLsb' 56 8 ++ w.extractLsb' 48 8 ++ w.extractLsb' 40 8 ++ w.extractLsb' 32 8 ++ w.extractLsb' 24 8
    ++ w.extractLsb' 21 3 ++ w.extractLsb' 18 3 ++ w.extractLsb' 15 3 ++ w.extractLsb' 12 3 ++ w.extractLsb' 11 1
    ++ w.extractLsb' 10 1 ++ w.extractLsb' 9 1 ++ w.extractLsb' 8 1 ++ w.extractLsb' 6 2 ++ w.extractLsb' 5 1
    ++ w.extractLsb' 4 1 ++ w.extractLsb' 0 4 = w
  rw [extract_append_extract w (start := 48) (len := 8), extract_append_extract w (start := 40) (len := 8),
    extract_append_extract w (start := 32) (len := 8), extract_append_extract w (start := 24) (len := 8),
    extract_append_extract w (start := 21) (len := 3), extract_append_extract w (start := 18) (len := 3),
    extract_append_extract w (start := 15) (len := 3), extract_append_extract w (start := 12) (len := 3),
    extract_append_extract w (start := 11) (len := 1), extract_append_extract w (start := 10) (len := 1),
    extract_append_extract w (start := 9) (len := 1), extract_append_extract w (start := 8) (len := 1),
    extract_append_extract w (start := 6) (len := 2), extract_append_extract w (start := 5) (len := 1),
    extract_append_extract w (start := 4) (len := 1), extract_append_extract w (start := 0) (len := 4)]
  exact BitVec.extractLsb'_eq_self

theorem vector_four_ext {α : Type} {x y : Vector α 4} (h0 : x[0] = y[0]) (h1 : x[1] = y[1]) (h2 : x[2] = y[2])
    (h3 : x[3] = y[3]) : x = y := by
  refine Vector.ext fun i hi => ?_
  match i, hi with
  | 0, _ => exact h0
  | 1, _ => exact h1
  | 2, _ => exact h2
  | 3, _ => exact h3

theorem packDefault_injective {f g : WireFrame} (h : packDefault f = packDefault g) : f = g := by
  obtain ⟨sensor, val, mode, wdTest, enable, invert, mark, rsv, wd, rem, crc⟩ := f
  obtain ⟨sensor', val', mode', wdTest', enable', invert', mark', rsv', wd', rem', crc'⟩ := g
  have hparts : (sensor ++ val[0] ++ val[1] ++ val[2] ++ val[3] ++ mode[0] ++ mode[1] ++ mode[2] ++ mode[3]
        ++ BitVec.ofBool wdTest ++ BitVec.ofBool enable ++ BitVec.ofBool invert ++ BitVec.ofBool mark ++ rsv
        ++ BitVec.ofBool wd ++ BitVec.ofBool rem ++ crc
        : BitVec (8 + 8 + 8 + 8 + 8 + 3 + 3 + 3 + 3 + 1 + 1 + 1 + 1 + 2 + 1 + 1 + 4))
      = sensor' ++ val'[0] ++ val'[1] ++ val'[2] ++ val'[3] ++ mode'[0] ++ mode'[1] ++ mode'[2] ++ mode'[3]
        ++ BitVec.ofBool wdTest' ++ BitVec.ofBool enable' ++ BitVec.ofBool invert' ++ BitVec.ofBool mark' ++ rsv'
        ++ BitVec.ofBool wd' ++ BitVec.ofBool rem' ++ crc' := h
  simp only [Laws.EncodeInRow.append_eq_append, BitVec.ofBool_eq_iff_eq] at hparts
  obtain ⟨⟨⟨⟨⟨⟨⟨⟨⟨⟨⟨⟨⟨⟨⟨⟨hsensor, hv0⟩, hv1⟩, hv2⟩, hv3⟩, hm0⟩, hm1⟩, hm2⟩, hm3⟩, hwdTest⟩, henable⟩, hinvert⟩,
    hmark⟩, hrsv⟩, hwd⟩, hrem⟩, hcrc⟩ := hparts
  rw [hsensor, vector_four_ext hv0 hv1 hv2 hv3, vector_four_ext hm0 hm1 hm2 hm3, hwdTest, henable, hinvert, hmark,
    hrsv, hwd, hrem, hcrc]

theorem unpackDefault_packDefault : unpackDefault (packDefault f) = f :=
  packDefault_injective (packDefault_unpackDefault (packDefault f))

/-! ## The codec under a legal layout (R113 to R119) -/

variable {l : List Nat}

theorem unpack_pack (h : Config.layoutLegal l = true) : unpack l (pack l f) = f := by
  rw [unpack, pack, ofLayout_toLayout h, unpackDefault_packDefault]

/-- The CRC stands in the low nibble. -/
theorem packDefault_low : (packDefault f).extractLsb' 0 4 = f.crc := BitVec.extractLsb'_append_eq_right

/-- The high 60 bits do not depend on the CRC. -/
theorem packDefault_high (c : BitVec 4) :
    (packDefault { f with crc := c }).extractLsb' 4 60 = (packDefault f).extractLsb' 4 60 :=
  (BitVec.extractLsb'_append_eq_left (w := 60)).trans (BitVec.extractLsb'_append_eq_left (w := 60)).symm

theorem pack_low (h : Config.layoutLegal l = true) : (pack l f).extractLsb' 0 4 = f.crc := by
  rw [← packDefault_low f]
  refine BitVec.eq_of_getLsbD_eq fun i hi => ?_
  simp only [BitVec.getLsbD_extractLsb', hi, Nat.zero_add, pack, toLayout_low h _ (show i < 8 by omega)]

theorem pack_high (h : Config.layoutLegal l = true) (c : BitVec 4) :
    (pack l { f with crc := c }).extractLsb' 4 60 = (pack l f).extractLsb' 4 60 := by
  have hbit : ∀ i, 4 ≤ i → i < 64 → (packDefault { f with crc := c }).getLsbD i = (packDefault f).getLsbD i := by
    intro i hlow hi
    rw [getLsbD_of_high _ hlow hi, getLsbD_of_high _ hlow hi, packDefault_high]
  obtain ⟨hlength, -, -⟩ := layoutLegal_iff.mp h
  refine BitVec.eq_of_getLsbD_eq fun i hi => ?_
  simp only [BitVec.getLsbD_extractLsb', hi, decide_true, Bool.true_and]
  rw [Bool.eq_iff_iff, pack, pack, toLayout_getLsbD l _ (by omega), toLayout_getLsbD l _ (by omega),
    hbit (4 + i) (by omega) (by omega)]
  refine or_congr_right (exists_congr fun k => and_congr_right fun hk => ?_)
  have hkl : k < l.length := (List.getElem?_eq_some_iff.mp hk).1
  rw [hbit (8 + k) (by omega) (by omega)]

/-- A packed frame is its high 60 bits over its CRC. -/
theorem pack_eq_append (h : Config.layoutLegal l = true) (c : BitVec 4) :
    pack l { f with crc := c } = (pack l f).extractLsb' 4 60 ++ c := by
  have hlow : (pack l { f with crc := c }).extractLsb' 0 4 = c := pack_low _ h
  calc
    pack l { f with crc := c } = (pack l { f with crc := c }).extractLsb' 0 64 := BitVec.extractLsb'_eq_self.symm
    _ = (pack l { f with crc := c }).extractLsb' 4 60 ++ (pack l { f with crc := c }).extractLsb' 0 4 :=
      (extract_append_extract _ (start := 0) (len := 4) (len' := 60)).symm
    _ = (pack l f).extractLsb' 4 60 ++ c := by rw [pack_high f h, hlow]

/-- R117: an encoded frame is the packed frame with its CRC in place. -/
theorem encodeFrame_eq_pack {p : Config.Params} (h : Config.layoutLegal p.frameLayout = true) (inv : Bool) :
    encodeFrame p f inv =
      pack p.frameLayout { f with crc := crc4 p.crcForm (pack p.frameLayout f) inv } := by
  rw [encodeFrame, setCrc_eq_append, crc4_congr p.crcForm (pack_high f h 0) inv, pack_high f h]
  exact (pack_eq_append f h _).symm

/-- R116: decoding an encoded frame gives its fields with the CRC that was set. -/
theorem unpack_encodeFrame {p : Config.Params} (h : Config.layoutLegal p.frameLayout = true) (inv : Bool) :
    unpack p.frameLayout (encodeFrame p f inv) = { f with crc := crc4 p.crcForm (pack p.frameLayout f) inv } := by
  rw [encodeFrame_eq_pack f h, unpack_pack _ h]

/-- R111, R118: the CRC of an encoded frame is good exactly if it was not inverted. -/
theorem crcOk_encodeFrame (p : Config.Params) (inv : Bool) : crcOk p (encodeFrame p f inv) = !inv := by
  have hhigh := crc4_congr p.crcForm (setCrc_high p.crcForm (pack p.frameLayout { f with crc := 0 }) inv) false
  rw [crcOk, encodeFrame, hhigh, setCrc_low]
  cases inv with
  | false => simp
  | true =>
    rw [crc4_inv]
    have hne : ∀ c : BitVec 4, c ≠ ~~~c := by decide
    simp [hne]

end Fields

end Sys2Proof.Machine

section FrameCodecStatement

open Sys2Proof Sys2Proof.Machine Sys2Proof.Config

/-- Settles O30: under the default layout the packed frame is the fields side by side, which unpacking reads back; and
a legal layout is undone. -/
theorem frameRoundTrip : Obligations.FrameRoundTrip := by
  refine ⟨fun f => ?_, fun p f inv prev h => ⟨unpack_pack f h, ?_, crcOk_encodeFrame f p false, crcOk_encodeFrame f p true⟩⟩
  · have hread := unpackDefault_packDefault f
    have hval := congrArg WireFrame.actuatorValue hread
    have hmode := congrArg WireFrame.actuatorMode hread
    intro w
    have hw : w = packDefault f := toLayout_default (packDefault f)
    rw [hw]
    exact ⟨congrArg WireFrame.sensorValue hread, congrArg (·[0]) hval, congrArg (·[1]) hval, congrArg (·[2]) hval,
      congrArg (·[3]) hval, congrArg (·[0]) hmode, congrArg (·[1]) hmode, congrArg (·[2]) hmode, congrArg (·[3]) hmode,
      congrArg WireFrame.cmdWatchdogErrorTest hread, congrArg WireFrame.cmdEnable hread,
      congrArg WireFrame.cmdInvertCrc hread, congrArg WireFrame.startMark hread, congrArg WireFrame.fbReserved hread,
      congrArg WireFrame.fbWatchdogError hread, congrArg WireFrame.fbRemoteCrcError hread,
      congrArg WireFrame.crc hread⟩
  · rw [decodeFrame, unpack_encodeFrame f h]

end FrameCodecStatement

/-! # The bit transport (spec/41_bit_transport.md R130, R134 to R142)

The receive decoder takes one pulse after another: what makes it stop, and what its answer is where nothing does, is
said pulse by pulse. A burst that was sent passes every check, and its bits are those of its frames. -/

namespace Sys2Proof.Machine

section Classification

open Sys2Proof.Config (Params)

variable {p : Params}

/-! ## One pulse -/

/-- A high time lies in the band of the bit `v`. -/
def inBand (p : Params) (h : Nat) (v : Bool) : Prop :=
  if v then p.b1Min ≤ h ∧ h ≤ p.b1Max else p.b0Min ≤ h ∧ h ≤ p.b0Max

/-- R7: the bands of a legal configuration have no high time in common. -/
theorem bands_disjoint (h : p.legal = true) : p.b0Max < p.b1Min ∨ p.b1Max < p.b0Min := by
  simp only [Params.legal, Params.pulsesLegal, Bool.and_eq_true, Bool.or_eq_true, decide_eq_true_eq] at h
  obtain ⟨⟨-, ⟨⟨⟨-, hdisjoint⟩, -⟩, -⟩⟩, -⟩ := h
  exact hdisjoint

/-- R135: under a legal configuration a high time is the bit in whose band it lies. -/
theorem classify_eq_some_iff (h : p.legal = true) (n : Nat) (v : Bool) : classify p n = some v ↔ inBand p n v := by
  have hdisjoint := bands_disjoint h
  unfold classify
  split
  · cases v <;> simp [inBand]
    · omega
    · omega
  split
  · cases v <;> simp [inBand]
    · omega
    · omega
  · cases v <;> simp [inBand]
    · omega
    · omega

theorem classify_eq_none_iff (n : Nat) : classify p n = none ↔ ¬ inBand p n true ∧ ¬ inBand p n false := by
  unfold classify
  split
  · simp_all [inBand]
  split <;> simp_all [inBand]

theorem periodOk_iff (x : Pulse) :
    periodOk p x = true ↔ p.tpMin ≤ x.markTicks + x.spaceTicks ∧ x.markTicks + x.spaceTicks ≤ p.tpMax := by
  simp [periodOk]

end Classification

section Decoding

open Sys2Proof.Config (Params)

variable (p : Params)

/-! ## The bits of a burst -/

theorem depulseBits_cons_eq_some_iff (x : Pulse) (xs : List Pulse) (v : Bool) (bits : List Bool) :
    depulseBits p (x :: xs) = some (v :: bits) ↔
      classify p x.markTicks = some v ∧ (xs ≠ [] → periodOk p x = true) ∧ depulseBits p xs = some bits := by
  rw [depulseBits]
  cases classify p x.markTicks with
  | none => simp
  | some u => cases hp : periodOk p x <;> cases xs <;> simp [and_comm, eq_comm]

theorem depulseBits_cons_eq_none_iff (x : Pulse) (xs : List Pulse) :
    depulseBits p (x :: xs) = none ↔
      classify p x.markTicks = none ∨ (xs ≠ [] ∧ periodOk p x = false) ∨ depulseBits p xs = none := by
  rw [depulseBits]
  cases classify p x.markTicks with
  | none => simp
  | some u => cases hp : periodOk p x <;> cases xs <;> simp

/-- What holds of the places of a list that begins with `x`. -/
theorem forall_getElem?_cons {α : Type} {x : α} {xs : List α} {P : Nat → α → Prop} :
    (∀ k y, (x :: xs)[k]? = some y → P k y) ↔ P 0 x ∧ ∀ k y, xs[k]? = some y → P (k + 1) y :=
  ⟨fun h => ⟨h 0 x rfl, fun k y hy => h (k + 1) y hy⟩, fun ⟨h0, hs⟩ k y hy => by
    cases k with
    | zero =>
      obtain rfl : x = y := by simpa using hy
      exact h0
    | succ k => exact hs k y hy⟩

theorem exists_getElem?_cons {α : Type} {x : α} {xs : List α} {P : Nat → α → Prop} :
    (∃ k y, (x :: xs)[k]? = some y ∧ P k y) ↔ P 0 x ∨ ∃ k y, xs[k]? = some y ∧ P (k + 1) y := by
  have h := forall_getElem?_cons (x := x) (xs := xs) (P := fun k y => ¬ P k y)
  rw [← not_iff_not]
  push Not
  exact h

/-- R135, R136: the decoder answers these bits exactly if each pulse is one of them and each but the last is in
time. -/
theorem depulseBits_eq_some_iff (xs : List Pulse) (bits : List Bool) :
    depulseBits p xs = some bits ↔ bits.length = xs.length
      ∧ (∀ (k : Nat) (x : Pulse), xs[k]? = some x → ∀ v, bits[k]? = some v → classify p x.markTicks = some v)
      ∧ ∀ (k : Nat) (x : Pulse), xs[k]? = some x → k + 1 < xs.length → periodOk p x = true := by
  induction xs generalizing bits with
  | nil => cases bits <;> simp
  | cons x xs ih =>
    cases bits with
    | nil =>
      refine iff_of_false (fun h => ?_) (by simp)
      simpa using depulseBits_length h
    | cons v bits =>
      have hrest : xs ≠ [] ↔ 0 + 1 < (x :: xs).length := by
        rw [List.length_cons, Nat.add_lt_add_iff_right, List.length_pos_iff]
      rw [depulseBits_cons_eq_some_iff, ih, forall_getElem?_cons, forall_getElem?_cons, hrest]
      simp
      tauto

/-- R142: a symbol error ends the decoding at some pulse. -/
theorem depulseBits_eq_none_iff (xs : List Pulse) :
    depulseBits p xs = none ↔ ∃ (k : Nat) (x : Pulse), xs[k]? = some x
      ∧ (classify p x.markTicks = none ∨ (k + 1 < xs.length ∧ periodOk p x = false)) := by
  induction xs with
  | nil => simp
  | cons x xs ih =>
    have hrest : xs ≠ [] ↔ 0 + 1 < (x :: xs).length := by
      rw [List.length_cons, Nat.add_lt_add_iff_right, List.length_pos_iff]
    rw [depulseBits_cons_eq_none_iff, ih, exists_getElem?_cons, hrest, ← or_assoc]
    simp

/-! ## The three answers (R134, R137, R141, R142) -/

theorem framingError_iff (xs : List Pulse) :
    framingError p xs = true ↔ ∃ x, xs.head? = some x ∧ x.spaceLevel ≠ p.idleLevel := by
  cases xs <;> simp [framingError]

theorem depulse_symbolError_iff (xs : List Pulse) (n : Nat) :
    depulse p (some xs) n = .symbolError ↔ framingError p xs = true ∨ depulseBits p xs = none := by
  simp only [depulse, Option.getD_some]
  cases framingError p xs
  · cases depulseBits p xs with
    | none => simp
    | some bits =>
      simp only [Bool.false_eq_true, if_false, reduceCtorEq, or_self, iff_false]
      split <;> simp
  · simp

theorem depulse_sizeError_iff (xs : List Pulse) (n : Nat) :
    depulse p (some xs) n = .sizeError ↔
      ¬ (framingError p xs = true ∨ depulseBits p xs = none) ∧ xs.length ≠ n := by
  simp only [depulse, Option.getD_some]
  cases framingError p xs
  · cases hbits : depulseBits p xs with
    | none => simp
    | some bits =>
      rw [← depulseBits_length hbits]
      simp
  · simp

end Decoding

section SentBursts

open Sys2Proof.Config (Params)

/-! ## A burst as it was sent (R130, R139) -/

variable {p : Params}

theorem pulses_eq_map (p : Params) (burst : List FrameWord) :
    pulses p burst = (burst.flatMap frameBits).map (bitPulse p) := List.map_flatMap.symm

/-- Pulses that carry their bits in their bands and in time decode to those bits. -/
theorem depulseBits_bitPulses (hband : ∀ b, classify p (bitPulse p b).markTicks = some b)
    (hperiod : ∀ b, periodOk p (bitPulse p b) = true) (bits : List Bool) :
    depulseBits p (bits.map (bitPulse p)) = some bits := by
  induction bits with
  | nil => rfl
  | cons b bits ih => exact (depulseBits_cons_eq_some_iff p _ _ b bits).mpr ⟨hband b, fun _ => hperiod b, ih⟩

/-- Every pulse that is sent has its space at the idle level. -/
theorem framingError_bitPulses (p : Params) (bits : List Bool) :
    framingError p (bits.map (bitPulse p)) = false := by
  cases bits with
  | nil => rfl
  | cons b bits => cases b <;> simp [framingError, bitPulse]

theorem flatMap_frameBits_length (burst : List FrameWord) : (burst.flatMap frameBits).length = 64 * burst.length := by
  induction burst with
  | nil => rfl
  | cons w ws ih => rw [List.flatMap_cons, List.length_append, frameBits_length, ih, List.length_cons]; omega

/-- The bits of frame `i` of a burst. -/
theorem take_drop_flatMap_frameBits (burst : List FrameWord) (i : Nat) (h : i < burst.length) :
    ((burst.flatMap frameBits).drop (64 * i)).take 64 = frameBits burst[i] := by
  induction burst generalizing i with
  | nil => cases h
  | cons w ws ih =>
    cases i with
    | zero => rw [List.flatMap_cons, Nat.mul_zero, List.drop_zero, List.take_left' (frameBits_length w)]; rfl
    | succ i =>
      have hskip : 64 * (i + 1) = (frameBits w).length + 64 * i := by rw [frameBits_length]; omega
      rw [List.flatMap_cons, hskip, List.drop_length_add_append, ih i (by simpa using h)]
      rfl

/-- The first `n` bits of a frame, taken in wire order, are its high `n` bits. -/
theorem foldl_highBits (w : FrameWord) {n : Nat} (h : n ≤ 64) :
    ((List.range n).map fun i => w.getLsbD (63 - i)).foldl
      (fun (acc : FrameWord) b => (acc <<< 1) ||| (BitVec.ofBool b).setWidth 64) 0 = w >>> (64 - n) := by
  induction n with
  | zero => exact (BitVec.ushiftRight_eq_zero (Nat.le_refl 64)).symm
  | succ n ih =>
    rw [List.range_succ, List.map_append, List.foldl_append, ih (by omega)]
    refine BitVec.eq_of_getLsbD_eq fun j hj => ?_
    cases j with
    | zero => simp
    | succ j =>
      have hsame : 64 - n + j = 63 - n + (j + 1) := by omega
      simp [hsame, hj]

/-- R69, R139: the bits of a frame make up the frame. -/
theorem frameOfBits_frameBits (w : FrameWord) : frameOfBits (frameBits w) = w := by
  have h := foldl_highBits w (n := 64) (Nat.le_refl 64)
  rwa [Nat.sub_self, BitVec.ushiftRight_zero] at h

end SentBursts

end Sys2Proof.Machine

section TransportStatements

open Sys2Proof Sys2Proof.Machine

/-- Settles O32: the bits of a burst are those of its frames, and each of their pulses passes every check. -/
theorem sentPulsesReadBack : Obligations.SentPulsesReadBack := by
  intro p burst hlegal hone hzero honePeriod hzeroPeriod
  have hband : ∀ b, classify p (bitPulse p b).markTicks = some b := fun b =>
    (classify_eq_some_iff hlegal _ b).mpr (by cases b <;> simpa [inBand, bitPulse])
  have hperiod : ∀ b, periodOk p (bitPulse p b) = true := fun b =>
    (periodOk_iff _).mpr (by cases b <;> simpa [bitPulse])
  rw [pulses_eq_map]
  refine ⟨by rw [List.length_map, flatMap_frameBits_length], burst.flatMap frameBits, ?_, fun i hi => ?_⟩
  · rw [depulse_ok_iff]
    exact ⟨framingError_bitPulses p _, depulseBits_bitPulses hband hperiod _, flatMap_frameBits_length burst⟩
  · rw [take_drop_flatMap_frameBits burst i hi, frameOfBits_frameBits]

/-- Settles O34: each answer by the checks that lead to it. -/
theorem depulseAcceptsExactly : Obligations.DepulseAcceptsExactly := by
  intro p xs n hlegal inOne inZero inPeriod symbolBad
  have hsymbol : framingError p xs = true ∨ depulseBits p xs = none ↔ symbolBad := by
    rw [framingError_iff, depulseBits_eq_none_iff]
    refine or_congr_right (exists_congr fun k => exists_congr fun x => and_congr_right fun _ => ?_)
    rw [classify_eq_none_iff, ← Bool.not_eq_true, periodOk_iff]
    rfl
  refine ⟨fun bits => ?_, (depulse_symbolError_iff p xs n).trans hsymbol, ?_⟩
  · rw [depulse_ok_iff, depulseBits_eq_some_iff, ← Bool.not_eq_true, framingError_iff]
    push Not
    simp only [classify_eq_some_iff hlegal, periodOk_iff]
    constructor
    · rintro ⟨hlevel, ⟨hlength, hband, hperiod⟩, rfl⟩
      exact ⟨hlevel, hlength.symm, rfl, fun k x v hx => hband k x hx v, fun k x hx hk => hperiod k x hx (hlength ▸ hk)⟩
    · rintro ⟨hlevel, rfl, hlength, hband, hperiod⟩
      exact ⟨hlevel, ⟨hlength, fun k x hx v => hband k x v hx, hperiod⟩, hlength⟩
  · rw [depulse_sizeError_iff, hsymbol]

end TransportStatements

/-! # The words that the host reads (spec/20_memory.md R62, R66, spec/30_encoding.md R101, R102)

A state word is its fields laid side by side; taking the word apart at their bounds gives the fields back. -/

namespace Sys2Proof.Machine

section StateWords

variable (w : Word)

/-! ## The words taken apart -/

theorem satStateWord_parts (x : Sat) (sl : Slot) (sensor : Byte) (h : satStateWord x sl sensor = w) :
    w.extractLsb' 0 5 = x.op ∧ w.extractLsb' 5 3 = 0 ∧ w.extractLsb' 8 1 = x.adm.bit
      ∧ w.extractLsb' 9 1 = BitVec.ofBool sl.txEnableReq ∧ w.extractLsb' 10 2 = x.stPhase.code
      ∧ w.extractLsb' 12 2 = sl.tm.srv.code ∧ w.extractLsb' 14 2 = sl.tm.cli.code
      ∧ w.extractLsb' 16 2 = sl.tm.wd.code ∧ w.extractLsb' 18 6 = 0 ∧ w.extractLsb' 24 8 = sensor := by
  have hparts : w.extractLsb' 24 8 ++ w.extractLsb' 18 6 ++ w.extractLsb' 16 2 ++ w.extractLsb' 14 2
      ++ w.extractLsb' 12 2 ++ w.extractLsb' 10 2 ++ w.extractLsb' 9 1 ++ w.extractLsb' 8 1 ++ w.extractLsb' 5 3
      ++ w.extractLsb' 0 5 = w := by
    rw [extract_append_extract w (start := 18) (len := 6), extract_append_extract w (start := 16) (len := 2),
      extract_append_extract w (start := 14) (len := 2), extract_append_extract w (start := 12) (len := 2),
      extract_append_extract w (start := 10) (len := 2), extract_append_extract w (start := 9) (len := 1),
      extract_append_extract w (start := 8) (len := 1), extract_append_extract w (start := 5) (len := 3),
      extract_append_extract w (start := 0) (len := 5)]
    exact BitVec.extractLsb'_eq_self
  have hword := hparts.trans h.symm
  simp only [satStateWord, Laws.EncodeInRow.append_eq_append] at hword
  obtain ⟨⟨⟨⟨⟨⟨⟨⟨⟨hsensor, h18⟩, hwd⟩, hcli⟩, hsrv⟩, hphase⟩, hreq⟩, hadm⟩, h5⟩, hop⟩ := hword
  exact ⟨hop, h5, hadm, hreq, hphase, hsrv, hcli, hwd, h18, hsensor⟩

theorem linkStateWord_parts (l : LinkRegs) (d : DiscRegs) (r : ReestRegs) (h : linkStateWord l d r = w) :
    w.extractLsb' 0 5 = l.op ∧ w.extractLsb' 5 3 = 0 ∧ w.extractLsb' 8 1 = l.adm.bit ∧ w.extractLsb' 9 7 = 0
      ∧ w.extractLsb' 16 8 = l.noOfSats
      ∧ w.extractLsb' 24 1 = BitVec.ofBool (decide (d.state ≠ .idle) || d.pending)
      ∧ w.extractLsb' 25 1 = BitVec.ofBool r.armed ∧ w.extractLsb' 26 6 = 0 := by
  have hparts : w.extractLsb' 26 6 ++ w.extractLsb' 25 1 ++ w.extractLsb' 24 1 ++ w.extractLsb' 16 8
      ++ w.extractLsb' 9 7 ++ w.extractLsb' 8 1 ++ w.extractLsb' 5 3 ++ w.extractLsb' 0 5 = w := by
    rw [extract_append_extract w (start := 25) (len := 1), extract_append_extract w (start := 24) (len := 1),
      extract_append_extract w (start := 16) (len := 8), extract_append_extract w (start := 9) (len := 7),
      extract_append_extract w (start := 8) (len := 1), extract_append_extract w (start := 5) (len := 3),
      extract_append_extract w (start := 0) (len := 5)]
    exact BitVec.extractLsb'_eq_self
  have hword := hparts.trans h.symm
  simp only [linkStateWord, Laws.EncodeInRow.append_eq_append] at hword
  obtain ⟨⟨⟨⟨⟨⟨⟨h26, harmed⟩, hbusy⟩, hcount⟩, h9⟩, hadm⟩, h5⟩, hop⟩ := hword
  exact ⟨hop, h5, hadm, h9, hcount, hbusy, harmed, h26⟩

theorem linkConfigWord_parts (c : ConfRegs) (h : linkConfigWord c = w) :
    w.extractLsb' 0 8 = c.scanInterval ∧ w.extractLsb' 8 8 = c.maxSats ∧ w.extractLsb' 16 8 = c.linkAddr
      ∧ w.extractLsb' 24 8 = 0 := by
  have hword := (append_wordBytes w).trans h.symm
  simp only [linkConfigWord, Laws.EncodeInRow.append_eq_append] at hword
  obtain ⟨⟨⟨h24, haddr⟩, hmax⟩, hscan⟩ := hword
  exact ⟨hscan, hmax, haddr, h24⟩

theorem linkThresWord_parts (l : LinkRegs) (h : linkThresWord l = w) :
    w.extractLsb' 16 16 = l.thresHigh ∧ w.extractLsb' 0 16 = l.thresLow := by
  have hparts : w.extractLsb' 16 16 ++ w.extractLsb' 0 16 = w :=
    (extract_append_extract w (start := 0) (len := 16)).trans BitVec.extractLsb'_eq_self
  exact (Laws.EncodeInRow.append_eq_append _ _ _ _).mp (hparts.trans h.symm)

theorem evStatWord_parts (q : List Word) (o : Bool) (h : evStatWord q o = w) :
    w.extractLsb' 0 16 = BitVec.ofNat 16 (min q.length 0xFFFF) ∧ w.extractLsb' 16 15 = 0
      ∧ w.extractLsb' 31 1 = BitVec.ofBool o := by
  have hparts : w.extractLsb' 31 1 ++ w.extractLsb' 16 15 ++ w.extractLsb' 0 16 = w := by
    rw [extract_append_extract w (start := 16) (len := 15), extract_append_extract w (start := 0) (len := 16)]
    exact BitVec.extractLsb'_eq_self
  have hword := hparts.trans h.symm
  simp only [evStatWord, Laws.EncodeInRow.append_eq_append] at hword
  obtain ⟨⟨hovf, h16⟩, hcount⟩ := hword
  exact ⟨hcount, h16, hovf⟩

variable {w} {i : Nat}

theorem getLsbD_of_part {b : Bool} (h : w.extractLsb' i 1 = BitVec.ofBool b) : w.getLsbD i = b :=
  BitVec.ofBool_eq_iff_eq.mp ((ofBool_getLsbD w i).trans h)

theorem getLsbD_adm {x : Adm} (h : w.extractLsb' i 1 = x.bit) : w.getLsbD i = true ↔ x = .disable := by
  have hbit : x.bit = BitVec.ofBool (decide (x = .disable)) := by cases x <;> rfl
  rw [getLsbD_of_part (h.trans hbit), decide_eq_true_eq]

/-- Under the default layout the sensor byte is byte 0 of the frame. -/
theorem sensorValue_default (b : FrameWord) : (unpack Config.defaultLayout b).sensorValue = frameByte b 0 := by
  have hlegal : Config.layoutLegal Config.defaultLayout = true := by decide
  have hlayout : ofLayout Config.defaultLayout b = b := by
    have h := ofLayout_toLayout hlegal b
    rwa [toLayout_default] at h
  rw [unpack, hlayout]
  rfl

end StateWords

section RegisterReads

variable (s : State)

/-! ## The read of a register -/

theorem hostAccess_read_of_ne_event {addr : Nat} (haligned : addr % 4 = 0) (hwindow : addr ≤ 0xFC)
    (hevent : addr ≠ 0x1C) :
    hostAccess (.read addr 4) s = .next { s with readValue := some (s.register addr) } := by
  rw [hostAccess_read_of_admitted s (accessAdmitted_of_aligned haligned hwindow), readRegister_of_ne_event s hevent]

theorem hostAccess_read_event :
    hostAccess (.read 0x1C 4) s = .next { s with evq := s.evq.tail, readValue := some (s.evq.headD 0) } := by
  rw [hostAccess_read_of_admitted s (by decide)]
  rfl

end RegisterReads

end Sys2Proof.Machine

section ReadStatements

open Sys2Proof Sys2Proof.Machine

/-- Settles O23: the word is taken apart at the bounds of its fields. -/
theorem rdSatStateReadsTheStateWord : Obligations.RdSatStateReadsTheStateWord := by
  intro s f a bad modeCode
  have hadmits : s.admits (.rdsatstate f) = true ↔ ¬ bad := admits_of_sat_alone rfl rfl
  refine ⟨exec_of_failed_check hadmits, fun h => exec_of_absent (hadmits.mpr h) rfl, fun h hpresent => ?_⟩
  obtain ⟨hop, h5, hadm, hreq, hphase, hsrv, hcli, hwd, h18, hsensor⟩ :=
    satStateWord_parts (s.satState a) (s.sat a) (s.slot a) (sensorOf s.cfg (s.slot a).rxBytes) rfl
  have hmode : ∀ m : TestMode, modeCode m = m.code := fun m => by cases m <;> rfl
  refine ⟨s.satState a, exec_of_effect_ok (checked_of_present (hadmits.mpr h) hpresent) rfl, hop, h5, getLsbD_adm hadm,
    getLsbD_of_part hreq, ?_, hsrv.trans (hmode _).symm, hcli.trans (hmode _).symm, hwd.trans (hmode _).symm, h18,
    hsensor, fun hlayout => ?_⟩
  · rw [hphase]
    cases (s.sat a).stPhase <;> rfl
  · rw [hsensor, sensorOf, hlayout, sensorValue_default]

/-- Settles O26, register by register. -/
theorem readingEventTakesTheOldest : Obligations.ReadingEventTakesTheOldest := by
  intro s returns
  have hreturn : ∀ addr, addr % 4 = 0 → addr ≤ 0xFC → addr ≠ 0x1C → returns addr (s.register addr) :=
    fun addr => hostAccess_read_of_ne_event s
  refine ⟨fun w q hq => ?event, fun hq => ?empty, hreturn 0x00 rfl (by decide) (by decide),
    hreturn 0x04 rfl (by decide) (by decide), hreturn 0x0C rfl (by decide) (by decide),
    ⟨_, hreturn 0x08 rfl (by decide) (by decide), ?result⟩, ⟨_, hreturn 0x10 rfl (by decide) (by decide), ?linkState⟩,
    ⟨_, hreturn 0x14 rfl (by decide) (by decide), linkConfigWord_parts _ s.conf rfl⟩,
    ⟨_, hreturn 0x18 rfl (by decide) (by decide), linkThresWord_parts _ s.link rfl⟩,
    ⟨_, hreturn 0x20 rfl (by decide) (by decide), ?evStat⟩,
    fun addr haligned hlow hwindow => hostAccess_read_of_reserved s haligned hlow hwindow⟩
  case event => rw [hostAccess_read_event, hq]; rfl
  case empty =>
    show hostAccess (.read 0x1C 4) s = .next { s with evq := s.evq, readValue := some 0 }
    rw [hostAccess_read_event, hq]
    rfl
  case result =>
    have hword : s.register 0x08 = 0#24 ++ s.host.result := BitVec.setWidth_eq_append (by decide)
    rw [hword]
    exact ⟨BitVec.extractLsb'_append_eq_right, BitVec.extractLsb'_append_eq_left⟩
  case linkState =>
    obtain ⟨hop, h5, hadm, h9, hcount, hbusy, harmed, h26⟩ := linkStateWord_parts _ s.link s.disc s.reest rfl
    refine ⟨hop, h5, getLsbD_adm hadm, h9, hcount, ?_, getLsbD_of_part harmed, h26⟩
    rw [show (s.register 0x10).getLsbD 24 = _ from getLsbD_of_part hbusy, Bool.or_eq_true, decide_eq_true_eq]
  case evStat =>
    obtain ⟨hcount, h16, hovf⟩ := evStatWord_parts _ s.evq s.evOvf rfl
    refine ⟨?_, h16, getLsbD_of_part hovf⟩
    rw [show (s.register 0x20).extractLsb' 0 16 = _ from hcount, BitVec.toNat_ofNat]
    omega

end ReadStatements

/-! # The values after reset (spec/70_reset_and_hazards.md R300, R301) -/

namespace Sys2Proof.Machine

section ResetValues

open Sys2Proof.Config (Params)

variable {p : Params} (h : p.legal = true) (t : Nat)

/-! ## The parameters that reset loads into registers (spec/00_scope.md R6, R7) -/

/-- The ranges of R6 that bound the registers. -/
structure RegisterRanges (p : Params) : Prop where
  scanInterval : p.scanIntervalMs ≤ 255
  maxSats : 1 ≤ p.maxSats ∧ p.maxSats ≤ 254
  linkAddr : p.linkAddr ≤ 255
  thresHigh : p.errThresHigh0 ≤ 65535
  thresLow : p.errThresLow0 < p.errThresHigh0
  nDeact : 1 ≤ p.nDeact ∧ p.nDeact ≤ 255
  settleCycles : 1 ≤ p.settleCycles ∧ p.settleCycles ≤ 255
  phaseCycles : 1 ≤ p.selftestPhaseCycles ∧ p.selftestPhaseCycles ≤ 65535

include h in
theorem registerRanges : RegisterRanges p := by
  simp only [Params.legal, Params.countsLegal, Bool.and_eq_true, decide_eq_true_eq] at h
  constructor <;> omega

include h in
theorem layoutLegal_of_legal : Config.layoutLegal p.frameLayout = true := by
  simp only [Params.legal, Bool.and_eq_true] at h
  exact h.2

theorem params_legal : Config.params.legal = true := by
  unfold Config.params
  split
  · assumption
  · decide

/-- The sample of the slots after reset, and of the satellites: each is the one of R300. -/
theorem resetWith_slot_mem {sl : Slot} (hsl : sl ∈ (State.resetWith p t).slots) : sl = Slot.reset :=
  List.eq_of_mem_replicate hsl

theorem resetWith_sat_mem {x : Sat} (hx : x ∈ (State.resetWith p t).sats) :
    x = Sat.reset (BitVec.ofNat 16 p.errThresHigh0) (BitVec.ofNat 16 p.errThresLow0) :=
  List.eq_of_mem_replicate hx

theorem resetWith_slot (i : Nat) : (State.resetWith p t).slot i = Slot.reset := by
  simp only [State.slot, State.resetWith, List.getElem?_replicate]
  split <;> rfl

theorem resetWith_satPresent (a : Nat) : (State.resetWith p t).satPresent a = false := by
  rw [satPresent_eq_false_iff]
  by_cases ha : a < p.maxSats
  · right
    simp [State.sat, State.resetWith, ha, Sat.reset]
  · exact .inl (Nat.not_lt.mp ha)

theorem resetWith_stPhase (a : Nat) : ((State.resetWith p t).sat a).stPhase = .idle := by
  simp only [State.sat, State.resetWith, List.getElem?_replicate]
  split <;> rfl

/-- What the host reads of LINK_STATE right after reset: INIT and DISABLED, adm-state DISABLE, nothing else. -/
theorem resetWith_linkState : (State.resetWith p t).register 0x10 = 0x00000103#32 := by
  have hword : (0#6 ++ 0#1 ++ 0#1 ++ 0#8 ++ 0#7 ++ 1#1 ++ 0#3 ++ 0x03#5 : Word) = 0x00000103#32 := by decide
  exact hword

theorem resetWith_evStat : (State.resetWith p t).register 0x20 = 0 := (by decide : evStatWord [] false = 0)

/-! ## Every invariant holds (spec/10_state.md) -/

include h in
theorem resetWith_shape : (State.resetWith p t).Shape :=
  ⟨h, by simp [State.resetWith], by simp [State.resetWith], rfl, rfl, rfl, rfl⟩

include h in
/-- The pair of error thresholds that reset loads is ordered (R7). -/
theorem resetThresholds_lt : BitVec.ofNat 16 p.errThresLow0 < BitVec.ofNat 16 p.errThresHigh0 := by
  have hranges := registerRanges h
  have hhigh := hranges.thresHigh
  have hlow := hranges.thresLow
  rw [BitVec.lt_def, BitVec.toNat_ofNat, BitVec.toNat_ofNat]
  omega

/-- Right after reset no self-test runs, no test is requested and no slot is clean. -/
theorem resetWith_requests : (State.resetWith p t).RequestsSound := by
  intro i sl hsl
  rw [resetWith_slot_mem t (List.mem_of_getElem? hsl), State.expectedRequests, resetWith_stPhase]
  rfl

theorem resetWith_wire : (State.resetWith p t).WireCurrent := by
  have hdirty : ∀ sl ∈ (State.resetWith p t).slots, sl.txDirty ≠ false := by
    intro sl hsl
    rw [resetWith_slot_mem t hsl]
    decide
  exact ⟨fun i sl hsl hclean => absurd hclean (hdirty sl (List.mem_of_getElem? hsl)),
    fun sl hsl hclean => absurd hclean (hdirty sl hsl)⟩

theorem resetWith_discovery : (State.resetWith p t).DiscoverySound where
  running hn := absurd rfl hn
  probe hp := nomatch hp
  clear hc := nomatch hc
  idle _ := by
    refine ⟨Nat.zero_le _, fun a => ?_⟩
    rw [resetWith_satPresent]
    exact iff_of_false Bool.false_ne_true (Nat.not_lt_zero a)

theorem resetWith_modes : (State.resetWith p t).ModesSound where
  counts sl hsl k := by
    rw [resetWith_slot_mem t hsl]
    cases k <;> trivial
  inactive i _ k := by
    rw [resetWith_slot]
    cases k <;> rfl

theorem resetWith_selftests : (State.resetWith p t).SelftestsSound where
  running x hx hn := by
    rw [resetWith_sat_mem t hx] at hn
    exact absurd rfl hn
  atRest x hx _ := by
    rw [resetWith_sat_mem t hx]
    exact ⟨rfl, rfl⟩

theorem resetWith_cascaded : (State.resetWith p t).Cascaded where
  blocked a ha := by
    rw [resetWith_satPresent] at ha
    cases ha
  linkNever := (by decide : hasBit 0x03#5 opControlBlocked = false)
  satNever x hx := by
    rw [resetWith_sat_mem t hx]
    exact (by decide : hasBit 0x06#5 opInit = false)

theorem resetWith_adm : (State.resetWith p t).AdmSound where
  link := iff_of_true (by decide : hasBit 0x03#5 opDisabled = true) rfl
  sats x hx := by
    rw [resetWith_sat_mem t hx]
    exact iff_of_true (by decide : hasBit 0x06#5 opDisabled = true) rfl

include h in
theorem resetWith_thresholds : (State.resetWith p t).ThresholdsOrdered where
  link := resetThresholds_lt h
  sats x hx := by
    rw [resetWith_sat_mem t hx]
    exact resetThresholds_lt h

include h in
theorem resetWith_sound : (State.resetWith p t).Sound where
  shape := resetWith_shape h t
  queue := ⟨fun _ _ => Nat.zero_le _, fun _ hw => absurd hw List.not_mem_nil⟩
  thresholds := resetWith_thresholds h t
  cascaded := resetWith_cascaded t
  adm := resetWith_adm t
  discovery := resetWith_discovery t
  modes := resetWith_modes t
  selftests := resetWith_selftests t
  times := ⟨Nat.le_refl _, Nat.le_refl _, Nat.le_add_right _ _, fun _ => Nat.le_refl _, Nat.zero_le _⟩
  cycle := ⟨fun hboth => Bool.false_ne_true hboth.1, fun hp => ScanPhase.noConfusion hp⟩
  requests := resetWith_requests t
  wire := resetWith_wire t

/-! ## The reset input (R301) -/

theorem resetInput_eq (s : State) :
    s.resetInput = { State.resetWith s.cfg s.resetInput.env.clock with env := s.resetInput.env } := by
  show (State.resetWith s.tick.cfg s.tick.env.clock).setEnv s.tick.env = _
  rw [tick_cfg]
  rfl

end ResetValues

end Sys2Proof.Machine

section ResetStatements

open Sys2Proof Sys2Proof.Machine

/-- Settles O28, row by row. -/
theorem resetLeavesTheTableOfValues : Obligations.ResetLeavesTheTableOfValues := by
  refine ⟨fun p t h => ?values, params_legal, rfl, fun s hinput => ?input⟩
  case values =>
    intro s
    obtain ⟨hscan, ⟨-, hmax⟩, haddr, hhigh, hlow, -, -, -⟩ := registerRanges h
    have hreg8 {n : Nat} (hn : n ≤ 255) : (BitVec.ofNat 8 n).toNat = n := by rw [BitVec.toNat_ofNat]; omega
    have hreg16 {n : Nat} (hn : n ≤ 65535) : (BitVec.ofNat 16 n).toNat = n := by rw [BitVec.toNat_ofNat]; omega
    refine ⟨rfl, rfl, hreg8 hscan, hreg8 (by omega), hreg8 haddr, hreg16 hhigh, hreg16 (by omega), rfl, rfl, rfl, rfl,
      rfl, List.length_replicate, List.length_replicate, fun sl hsl => ?_, fun x hx => ?_, rfl, rfl, rfl, rfl, rfl, rfl,
      rfl, rfl, rfl, rfl, rfl, resetWith_linkState t, rfl, resetWith_evStat t⟩
    · rw [resetWith_slot_mem t hsl]
      exact ⟨rfl, rfl, rfl, rfl, rfl, rfl, rfl, rfl, rfl⟩
    · rw [resetWith_sat_mem t hx]
      exact ⟨rfl, rfl, rfl, hreg16 hhigh, hreg16 (by omega), rfl, rfl, rfl, rfl, rfl, rfl⟩
  case input =>
    have hclock := tick_clock_le s.inputTaken
    rw [inputTaken_clock] at hclock
    refine ⟨_, step_reset hinput, ?_, rfl, hclock⟩
    have h := resetInput_eq s.inputTaken
    rwa [inputTaken_cfg] at h

/-- Settles O53. -/
theorem soundAtReset : Obligations.SoundAtReset :=
  ⟨fun _ t h => resetWith_sound h t, resetWith_sound params_legal _⟩

end ResetStatements

/-! # The micro-steps in their order, WAIT and TXRX (spec/42_scan_engine.md R150, R154, R175) -/

namespace Sys2Proof.Machine

section WaitAndTxrx

variable (s : State)

/-! ## WAIT -/

theorem scanWait_eq :
    s.scanWait = s.tick.setPhase (if s.time.periodBase ≤ s.tick.env.clock then .encode else s.scanPhase) := by
  rw [State.scanWait, tick_time]
  split
  · rfl
  · rw [← tick_scanPhase]
    rfl

/-! ## TXRX -/

/-- `t` with all that TXRX may write taken from `s`. -/
def State.withoutTxrx (s t : State) : State :=
  { t with scanPhase := s.scanPhase, cyc := s.cyc, line := s.line, env := s.env }

/-- What TXRX makes of the decoder's answer (R154). -/
def CycleRegs.ofAnswer : RxResult → CycleRegs
  | .symbolError => ⟨true, false, []⟩
  | .sizeError => ⟨false, true, []⟩
  | .ok bits => ⟨false, false, bits⟩

theorem scanTxrx_of_silent (h : s.activeSlots = 0) :
    s.scanTxrx = { s with scanPhase := .process, cyc := ⟨false, false, []⟩, line := { s.line with txBurst := [] } } := by
  rw [State.scanTxrx, if_pos h]
  rfl

theorem busAnswer_congr {s t : State} (h : t.env = s.env) : t.busAnswer = s.busAnswer := by
  simp only [State.busAnswer, h]

theorem busAdvance_congr {s t : State} (h : t.env = s.env) : t.busAdvance.env = s.busAdvance.env := by
  simp only [State.busAdvance, h]
  split <;> rfl

theorem scanTxrx_of_active (h : s.activeSlots ≠ 0) :
    s.scanTxrx =
      { s with
        scanPhase := .process
        cyc := .ofAnswer (depulse s.cfg s.busAnswer (64 * s.activeSlots))
        line := ⟨s.cfg.idleLevel, pulses s.cfg s.txFrames⟩
        env := s.busAdvance.env } := by
  let s1 := s.setLine ⟨s.cfg.idleLevel, pulses s.cfg s.txFrames⟩
  have hanswer : s1.busAnswer = s.busAnswer := busAnswer_congr rfl
  have hadvance : s1.busAdvance.env = s.busAdvance.env := busAdvance_congr rfl
  have hframe : s1.busAdvance = { s1 with env := s1.busAdvance.env } := by
    unfold State.busAdvance
    split <;> rfl
  have hcyc : ∀ r : RxResult,
      (match r with
        | .symbolError => { sym := true, size := false, rxBuf := [] }
        | .sizeError => { sym := false, size := true, rxBuf := [] }
        | .ok bits => { sym := false, size := false, rxBuf := bits } : CycleRegs) = .ofAnswer r := by
    intro r
    cases r <;> rfl
  rw [State.scanTxrx, if_neg h]
  show ((s1.busAdvance.setCyc (match depulse s.cfg s1.busAnswer (64 * s.activeSlots) with
    | .symbolError => { sym := true, size := false, rxBuf := [] }
    | .sizeError => { sym := false, size := true, rxBuf := [] }
    | .ok bits => { sym := false, size := false, rxBuf := bits } : CycleRegs)).setPhase _) = _
  rw [hcyc, hframe, hadvance, hanswer]
  rfl

end WaitAndTxrx

end Sys2Proof.Machine

section MicroStepStatements

open Sys2Proof Sys2Proof.Machine

/-- Settles O35: each micro-step ends by setting the next one, but WAIT, which does so where the period has begun. -/
theorem microStepsInCyclicOrder : Obligations.MicroStepsInCyclicOrder := by
  intro s hinput
  refine ⟨_, step_scan hinput, ?_⟩
  rw [State.scanStep, inputTaken_scanPhase]
  cases hphase : s.scanPhase with
  | wait =>
    have hclock := tick_clock_le s.inputTaken
    rw [inputTaken_clock] at hclock
    have hframe := (congrArg (State.setPhase · .wait) (tick_frame s.inputTaken s.env)).trans
      (congrArg (State.setPhase · .wait) (inputTaken_frame s s.env))
    rw [scanWait_eq, inputTaken_time, inputTaken_scanPhase, hphase]
    exact ⟨hframe.trans (by rw [← hphase]; rfl), rfl, hclock, rfl⟩
  | encode => rfl
  | txrx =>
    show s.inputTaken.scanTxrx.scanPhase = _
    by_cases hactive : s.inputTaken.activeSlots = 0
    · rw [scanTxrx_of_silent _ hactive]
    · rw [scanTxrx_of_active _ hactive]
  | process => rfl
  | budget => rfl
  | seq => rfl
  | timing => rfl

/-- Settles O38, by whether any slot is active. -/
theorem txrxSendsTheActiveSlots : Obligations.TxrxSendsTheActiveSlots := by
  intro s hinput hphase
  have hstep : step s = .next s.inputTaken.scanTxrx := by
    rw [step_scan hinput, State.scanStep, inputTaken_scanPhase, hphase]
  refine ⟨_, hstep, ?_⟩
  have hframe := inputTaken_frame s s.env
  by_cases hactive : s.activeSlots = 0
  · rw [scanTxrx_of_silent _ (by simpa using hactive)]
    exact ⟨(congrArg (State.withoutTxrx s) hframe :), fun _ => ⟨rfl, by simp, rfl⟩, fun h => absurd hactive h⟩
  · rw [scanTxrx_of_active _ (by simpa using hactive)]
    refine ⟨(congrArg (State.withoutTxrx s) hframe :), fun h => absurd h hactive, fun _ => ⟨?_, rfl, ?_⟩⟩
    · simp [State.txFrames]
    · simp only [inputTaken_cfg, inputTaken_activeSlots]
      cases depulse s.cfg s.inputTaken.busAnswer (64 * s.activeSlots) <;> rfl

end MicroStepStatements

/-! # Changes of op-states (spec/44_state_machine.md R210 to R213)

`OpChange` is what every operation of the operational state machine, every emission of an event and every counting of
an error keeps: it may change op-states, counters, the queue, the timer and the clock, and mark slots dirty; a slot
that it leaves clean is that of a satellite whose op-state it leaves alone. `BitsKept` says which bits of the op-states
stay. -/

namespace Sys2Proof.Machine

section OpChanges

variable {s t u : State}

/-- `t` with all that an operation of the state machine may write taken from `s`. -/
def State.withOps (s t : State) : State :=
  { t with
    link := s.link
    sats := s.sats
    slots := s.slots
    evq := s.evq
    evOvf := s.evOvf
    env := s.env
    reest := s.reest }

/-- From `s` to `t` only op-states, counters, dirty flags, events, the timer and the clock have changed. -/
structure OpChange (s t : State) : Prop where
  frame : s.withOps t = s
  link : { t.link with op := s.link.op, cum := s.link.cum, sec := s.link.sec } = s.link
  satsLength : t.sats.length = s.sats.length
  slotsLength : t.slots.length = s.slots.length
  sat : ∀ a, { t.sat a with
    op := (s.sat a).op, cum := (s.sat a).cum, sec := (s.sat a).sec, test := (s.sat a).test } = s.sat a
  slot : ∀ i, { t.slot i with txDirty := (s.slot i).txDirty } = s.slot i
  clean : ∀ i, (t.slot i).txDirty = false → (s.slot i).txDirty = false ∧ (t.sat i).op = (s.sat i).op

theorem OpChange.refl (s : State) : OpChange s s :=
  ⟨rfl, rfl, rfl, rfl, fun _ => rfl, fun _ => rfl, fun _ h => ⟨h, rfl⟩⟩

theorem OpChange.trans (h : OpChange s t) (h' : OpChange t u) : OpChange s u where
  frame := (congrArg s.withOps h'.frame).trans h.frame
  link := (congrArg (fun l : LinkRegs => { l with op := s.link.op, cum := s.link.cum, sec := s.link.sec }) h'.link).trans
    h.link
  satsLength := h'.satsLength.trans h.satsLength
  slotsLength := h'.slotsLength.trans h.slotsLength
  sat a := (congrArg (fun x : Sat =>
    { x with op := (s.sat a).op, cum := (s.sat a).cum, sec := (s.sat a).sec, test := (s.sat a).test }) (h'.sat a)).trans
    (h.sat a)
  slot i := (congrArg (fun sl : Slot => { sl with txDirty := (s.slot i).txDirty }) (h'.slot i)).trans (h.slot i)
  clean i hu := by
    obtain ⟨ht, hop⟩ := h'.clean i hu
    obtain ⟨hs, hop'⟩ := h.clean i ht
    exact ⟨hs, hop.trans hop'⟩

/-- A change that leaves Link, satellites and slots alone. -/
theorem OpChange.ofSame (frame : s.withOps t = s) (hlink : t.link = s.link) (hsats : t.sats = s.sats)
    (hslots : t.slots = s.slots) : OpChange s t where
  frame := frame
  link := by rw [hlink]
  satsLength := by rw [hsats]
  slotsLength := by rw [hslots]
  sat a := by rw [sat_congr hsats]
  slot i := by rw [slot_congr hslots]
  clean i h := ⟨by rwa [slot_congr hslots] at h, by rw [sat_congr hsats]⟩

theorem OpChange.ite {c : Prop} [Decidable c] (ht : OpChange s t) (hu : OpChange s u) :
    OpChange s (if c then t else u) := by
  split
  · exact ht
  · exact hu

/-! What such a change keeps. -/

section Kept

variable (h : OpChange s t)
include h

theorem OpChange.cfg : t.cfg = s.cfg := (congrArg State.cfg h.frame :)
theorem OpChange.scanPhase : t.scanPhase = s.scanPhase := (congrArg State.scanPhase h.frame :)
theorem OpChange.conf : t.conf = s.conf := (congrArg State.conf h.frame :)
theorem OpChange.disc : t.disc = s.disc := (congrArg State.disc h.frame :)
theorem OpChange.cyc : t.cyc = s.cyc := (congrArg State.cyc h.frame :)
theorem OpChange.host : t.host = s.host := (congrArg State.host h.frame :)
theorem OpChange.time : t.time = s.time := (congrArg State.time h.frame :)
theorem OpChange.line : t.line = s.line := (congrArg State.line h.frame :)
theorem OpChange.readValue : t.readValue = s.readValue := (congrArg State.readValue h.frame :)
theorem OpChange.noOfSats : t.link.noOfSats = s.link.noOfSats := (congrArg LinkRegs.noOfSats h.link :)
theorem OpChange.linkAdm : t.link.adm = s.link.adm := (congrArg LinkRegs.adm h.link :)
theorem OpChange.linkThresHigh : t.link.thresHigh = s.link.thresHigh := (congrArg LinkRegs.thresHigh h.link :)
theorem OpChange.linkThresLow : t.link.thresLow = s.link.thresLow := (congrArg LinkRegs.thresLow h.link :)
theorem OpChange.activeSlots : t.activeSlots = s.activeSlots := congrArg BitVec.toNat h.noOfSats
theorem OpChange.present (a : Nat) : (t.sat a).present = (s.sat a).present := (congrArg Sat.present (h.sat a) :)
theorem OpChange.adm (a : Nat) : (t.sat a).adm = (s.sat a).adm := (congrArg Sat.adm (h.sat a) :)
theorem OpChange.thresHigh (a : Nat) : (t.sat a).thresHigh = (s.sat a).thresHigh :=
  (congrArg Sat.thresHigh (h.sat a) :)
theorem OpChange.thresLow (a : Nat) : (t.sat a).thresLow = (s.sat a).thresLow := (congrArg Sat.thresLow (h.sat a) :)
theorem OpChange.stPhase (a : Nat) : (t.sat a).stPhase = (s.sat a).stPhase := (congrArg Sat.stPhase (h.sat a) :)
theorem OpChange.stCnt (a : Nat) : (t.sat a).stCnt = (s.sat a).stCnt := (congrArg Sat.stCnt (h.sat a) :)
theorem OpChange.stImplicit (a : Nat) : (t.sat a).stImplicit = (s.sat a).stImplicit :=
  (congrArg Sat.stImplicit (h.sat a) :)

theorem OpChange.satPresent (a : Nat) : t.satPresent a = s.satPresent a := by
  rw [State.satPresent, State.satPresent, h.cfg, h.present]

end Kept

/-! ## The operations that such a change is made of

Each keeps `OpChange s` from the state it runs on to the state it gives. -/

section Operations

variable (h : OpChange s t)
include h

theorem OpChange.emit (e : Event) : OpChange s (t.emit e) := by
  refine h.trans (.ofSame ?_ (emit_link t e) (emit_sats t e) (emit_slots t e))
  unfold State.emit
  split <;> rfl

theorem OpChange.tick : OpChange s t.tick := by
  refine h.trans (.ofSame ?_ (tick_link t) (tick_sats t) (tick_slots t))
  unfold State.tick
  split <;> rfl

theorem OpChange.setReest (r : ReestRegs) : OpChange s (t.setReest r) := h.trans (.ofSame rfl rfl rfl rfl)

theorem OpChange.reestArm : OpChange s t.reestArm := h.tick.setReest _

theorem OpChange.setLink {l : LinkRegs}
    (hl : { l with op := t.link.op, cum := t.link.cum, sec := t.link.sec } = t.link) : OpChange s (t.setLink l) :=
  h.trans ⟨rfl, hl, rfl, rfl, fun _ => rfl, fun _ => rfl, fun _ hc => ⟨hc, rfl⟩⟩

/-- A write of counters of one satellite. -/
theorem OpChange.modifySat (a : Nat) {g : Sat → Sat}
    (hg : ∀ x, { g x with cum := x.cum, sec := x.sec, test := x.test } = x) : OpChange s (t.modifySat a g) := by
  have hop : ∀ x, (g x).op = x.op := fun x => (congrArg Sat.op (hg x) :)
  refine h.trans ⟨rfl, rfl, modifySat_length t a g, rfl, fun c => ?_, fun _ => rfl, fun i hc => ⟨hc, ?_⟩⟩
  · rw [sat_modifySat]
    split
    · have hx := congrArg (fun x : Sat => { x with op := (t.sat c).op }) (hg (t.sat c))
      exact hx
    · rfl
  · rw [sat_modifySat]
    split
    · exact hop _
    · rfl

theorem OpChange.setSatOp (a : Nat) (op : OpState) : OpChange s (t.setSatOp a op) := by
  have hsat : ∀ c, (t.setSatOp a op).sat c = if a = c ∧ c < t.sats.length then { t.sat c with op := op } else t.sat c :=
    fun c => (sat_congr (t := t.setSatOp a op) (s := t.modifySat a fun x => { x with op := op })
      (setSatOp_sats t a op) c).trans (sat_modifySat t a c _)
  refine h.trans ⟨?_, by simp, by simp, setSatOp_slots_length t a op, fun c => ?_, fun i => ?_, fun i hc => ?_⟩
  · unfold State.setSatOp
    split <;> rfl
  · rw [hsat]
    split <;> rfl
  · unfold State.setSatOp
    split
    · rfl
    · rw [slot_modifySlot]
      split <;> rfl
  · rw [hsat]
    unfold State.setSatOp at hc
    split at hc
    · rename_i hsame
      refine ⟨hc, ?_⟩
      split
      · rename_i hi
        rw [← hi.1, hsame]
      · rfl
    · rw [slot_modifySlot] at hc
      split at hc
      · cases hc
      · rename_i hne
        refine ⟨hc, ?_⟩
        split
        · rename_i hi
          have hnone : ¬ i < t.slots.length := fun hlt => hne ⟨hi.1, hlt⟩
          have hreset : t.slot i = Slot.reset := by
            rw [State.slot, List.getElem?_eq_none (Nat.not_lt.mp hnone)]
            rfl
          have hdirty : (t.slot i).txDirty = false := hc
          rw [hreset] at hdirty
          cases hdirty
        · rfl

theorem OpChange.forEachSat {g : Nat → State → State} (hg : ∀ a u, OpChange s u → OpChange s (g a u)) :
    OpChange s (t.forEachSat g) := forEachSat_induct t (fun a u hu _ => hg a u hu) h

theorem OpChange.blockOne (e : Entity) (flag : OpState) : OpChange s (t.blockOne e flag) := by
  cases e with
  | link =>
    have hlink : OpChange s (t.setOp .link (t.op .link ||| flag)) := h.setLink rfl
    exact hlink.emit _
  | sat a => exact (h.setSatOp a _).emit _

theorem OpChange.opBlock (e : Entity) (flag : OpState) : OpChange s (t.opBlock e flag) := by
  cases e with
  | sat a => exact h.blockOne (.sat a) flag
  | link =>
    have hcascade := h.forEachSat fun a _ hu => hu.blockOne (.sat a) opControlBlocked
    have hblocked := (OpChange.ite (c := t.link.op = 0) hcascade h).blockOne .link flag
    exact .ite hblocked.reestArm hblocked

theorem OpChange.resetCounters (e : Entity) : OpChange s (t.resetCounters e) := by
  cases e with
  | link => exact h.setLink rfl
  | sat a => exact h.modifySat a fun _ => rfl

theorem OpChange.deblockSat (a : Nat) (flag : OpState) : OpChange s (t.deblockSat a flag) :=
  OpChange.emit (.ite ((h.setSatOp a _).resetCounters (.sat a)) (h.setSatOp a _)) _

theorem OpChange.opDeBlock (e : Entity) (flag : OpState) : OpChange s (t.opDeBlock e flag) := by
  cases e with
  | sat a => exact h.deblockSat a flag
  | link =>
    have hlink : OpChange s (t.setLink { t.link with op := t.link.op &&& ~~~flag }) := h.setLink rfl
    have hcascade := hlink.forEachSat fun a _ hu => hu.deblockSat a opControlBlocked
    exact OpChange.emit (.ite (hcascade.resetCounters .link) hlink) _

theorem OpChange.countLink (k : LinkKind) : OpChange s (t.countLink k) := h.setLink rfl

theorem OpChange.countSat (a : Nat) (k : SatKind) : OpChange s (t.countSat a k) := by
  have hsat := h.modifySat a (g := fun x => { x with cum := x.cum.inc k, sec := x.sec.inc k }) fun _ => rfl
  exact hsat.countLink k.toLink

theorem OpChange.routeOne (a : Nat) (k : SatKind) : OpChange s (t.routeOne a k) :=
  .ite (h.modifySat a fun _ => rfl) (h.countSat a k)

theorem OpChange.route (a : Nat) (eCrc eRem eWd : Bool) : OpChange s (t.route a eCrc eRem eWd) := by
  have hcrc : OpChange s (if eCrc then t.routeOne a .rxcrc else t) := .ite (h.routeOne a _) h
  have hrem := OpChange.ite (c := eRem = true) (hcrc.routeOne a .remcrc) hcrc
  exact .ite (hrem.routeOne a .wd) hrem

end Operations

/-! ## The bits of the op-states that stay -/

/-- The bits of `mask` are in every op-state of `t` as in `s`. -/
structure BitsKept (mask : OpState) (s t : State) : Prop where
  link : t.link.op &&& mask = s.link.op &&& mask
  sat : ∀ a, (t.sat a).op &&& mask = (s.sat a).op &&& mask

section Bits

variable {mask : OpState}

theorem BitsKept.refl (mask : OpState) (s : State) : BitsKept mask s s := ⟨rfl, fun _ => rfl⟩

theorem BitsKept.trans (h : BitsKept mask s t) (h' : BitsKept mask t u) : BitsKept mask s u :=
  ⟨h'.link.trans h.link, fun a => (h'.sat a).trans (h.sat a)⟩

theorem BitsKept.ofSame (hlink : t.link.op = s.link.op) (hsat : ∀ a, (t.sat a).op = (s.sat a).op) :
    BitsKept mask s t := ⟨by rw [hlink], fun a => by rw [hsat]⟩

theorem BitsKept.ite {c : Prop} [Decidable c] (ht : BitsKept mask s t) (hu : BitsKept mask s u) :
    BitsKept mask s (if c then t else u) := by
  split
  · exact ht
  · exact hu

theorem hasBit_of_and_eq {op op' : OpState} (h : op' &&& mask = op &&& mask) : hasBit op' mask = hasBit op mask := by
  rw [hasBit, hasBit, h]

theorem BitsKept.hasBit_link (h : BitsKept mask s t) : hasBit t.link.op mask = hasBit s.link.op mask :=
  hasBit_of_and_eq h.link

theorem BitsKept.hasBit_sat (h : BitsKept mask s t) (a : Nat) : hasBit (t.sat a).op mask = hasBit (s.sat a).op mask :=
  hasBit_of_and_eq (h.sat a)

/-- Setting bits outside the mask. -/
theorem or_and_of_outside {op flag mask : OpState} (h : flag &&& mask = 0) : (op ||| flag) &&& mask = op &&& mask := by
  refine BitVec.eq_of_getLsbD_eq fun i _ => ?_
  have hbit := congrArg (BitVec.getLsbD · i) h
  simp only [BitVec.getLsbD_and] at hbit
  rw [BitVec.getLsbD_and, BitVec.getLsbD_or, Bool.and_or_distrib_right, hbit, BitVec.getLsbD_and]
  simp

/-- Clearing bits outside the mask. -/
theorem andNot_and_of_outside {op flag mask : OpState} (h : flag &&& mask = 0) :
    (op &&& ~~~flag) &&& mask = op &&& mask := by
  refine BitVec.eq_of_getLsbD_eq fun i hi => ?_
  have hbit := congrArg (BitVec.getLsbD · i) h
  simp only [BitVec.getLsbD_and] at hbit
  simp only [BitVec.getLsbD_and, BitVec.getLsbD_not, hi, decide_true, Bool.true_and]
  cases hm : mask.getLsbD i with
  | false => simp
  | true =>
    have hf : flag.getLsbD i = false := by simpa [hm] using hbit
    simp [hf]

section BitOperations

variable (h : BitsKept mask s t)
include h

theorem BitsKept.emit (e : Event) : BitsKept mask s (t.emit e) :=
  h.trans (.ofSame (by rw [emit_link]) fun a => by rw [sat_congr (emit_sats t e)])

theorem BitsKept.reestArm : BitsKept mask s t.reestArm :=
  h.trans (.ofSame (by rw [reestArm_link]) fun a => by rw [sat_congr (reestArm_sats t)])

theorem BitsKept.setLink {l : LinkRegs} (hl : l.op &&& mask = t.link.op &&& mask) : BitsKept mask s (t.setLink l) :=
  h.trans ⟨hl, fun _ => rfl⟩

theorem BitsKept.modifySat (a : Nat) {g : Sat → Sat} (hg : ∀ x, (g x).op &&& mask = x.op &&& mask) :
    BitsKept mask s (t.modifySat a g) := by
  refine h.trans ⟨rfl, fun c => ?_⟩
  rw [sat_modifySat]
  split
  · exact hg _
  · rfl

theorem BitsKept.setSatOp (a : Nat) {op : OpState} (hop : op &&& mask = (t.sat a).op &&& mask) :
    BitsKept mask s (t.setSatOp a op) := by
  refine h.trans ⟨by simp, fun c => ?_⟩
  rw [sat_congr (t := t.setSatOp a op) (s := t.modifySat a fun x => { x with op := op }) (setSatOp_sats t a op),
    sat_modifySat]
  split
  · rename_i hc
    rw [← hc.1]
    exact hop
  · rfl

theorem BitsKept.forEachSat {g : Nat → State → State} (hg : ∀ a u, BitsKept mask s u → BitsKept mask s (g a u)) :
    BitsKept mask s (t.forEachSat g) := forEachSat_induct t (fun a u hu _ => hg a u hu) h

variable {flag : OpState} (hflag : flag &&& mask = 0)
include hflag

theorem BitsKept.blockOne (e : Entity) : BitsKept mask s (t.blockOne e flag) := by
  cases e with
  | link => exact (h.setLink (or_and_of_outside hflag)).emit _
  | sat a => exact (h.setSatOp a (or_and_of_outside hflag)).emit _

theorem BitsKept.deblockSat (a : Nat) : BitsKept mask s (t.deblockSat a flag) := by
  have hop := h.setSatOp a (op := (t.sat a).op &&& ~~~flag) (andNot_and_of_outside hflag)
  have hcounters : BitsKept mask s ((t.setSatOp a ((t.sat a).op &&& ~~~flag)).resetCounters (.sat a)) :=
    hop.modifySat a fun _ => rfl
  exact BitsKept.emit (.ite hcounters hop) _

variable (hcb : opControlBlocked &&& mask = 0)
include hcb

theorem BitsKept.opBlock (e : Entity) : BitsKept mask s (t.opBlock e flag) := by
  cases e with
  | sat a => exact h.blockOne hflag (.sat a)
  | link =>
    have hcascade := h.forEachSat fun a _ hu => hu.blockOne hcb (.sat a)
    have hblocked := (BitsKept.ite (c := t.link.op = 0) hcascade h).blockOne hflag .link
    exact .ite hblocked.reestArm hblocked

theorem BitsKept.opDeBlock (e : Entity) : BitsKept mask s (t.opDeBlock e flag) := by
  cases e with
  | sat a => exact h.deblockSat hflag a
  | link =>
    have hlink : BitsKept mask s (t.setLink { t.link with op := t.link.op &&& ~~~flag }) :=
      h.setLink (andNot_and_of_outside hflag)
    have hcascade := hlink.forEachSat fun a _ hu => hu.deblockSat hcb a
    have hcounters : BitsKept mask s (((t.setLink { t.link with op := t.link.op &&& ~~~flag }).forEachSat
        fun a u => u.deblockSat a opControlBlocked).resetCounters .link) := hcascade.setLink rfl
    exact BitsKept.emit (.ite hcounters hlink) _

end BitOperations

end Bits

end OpChanges

end Sys2Proof.Machine

/-! # opBlock and opDeBlock (spec/44_state_machine.md R210 to R213, R220)

What each leaves of every satellite and slot, and its events in order; first for one satellite, then for the Link with
its cascade. -/

namespace Sys2Proof.Machine

section OneSatellite

variable (s : State) (a : Nat) (flag : OpState)

theorem slots_sats_of_local {s t : State} {a : Nat} (h : Local a s t) (j : Nat) (hj : j ≠ a) :
    t.slots[j]? = s.slots[j]? ∧ t.sats[j]? = s.sats[j]? :=
  ⟨congrArg Prod.snd (h.other j hj), congrArg Prod.fst (h.other j hj)⟩

theorem blockOne_sat_frame :
    { s.blockOne (.sat a) flag with sats := s.sats, slots := s.slots, evq := s.evq, evOvf := s.evOvf } = s := by
  simp

theorem deblockSat_frame :
    { s.deblockSat a flag with sats := s.sats, slots := s.slots, evq := s.evq, evOvf := s.evOvf } = s := by
  simp

/-- A slot marked dirty where `p` holds. -/
theorem txDirty_or_decide (sl : Slot) (p : Prop) [Decidable p] :
    { sl with txDirty := sl.txDirty || decide p } = if p then { sl with txDirty := true } else sl := by
  by_cases hp : p
  · rw [if_pos hp, decide_eq_true hp, Bool.or_true]
  · rw [if_neg hp, decide_eq_false hp, Bool.or_false]

theorem queue_eq_iff {s t : State} : t.queue = s.queue ↔ t.evq = s.evq ∧ t.evOvf = s.evOvf := Prod.mk_inj

end OneSatellite

section LinkBlocked

variable (s : State) (flag : OpState)

/-- R211: the cascade of `opBlock`, made where the Link was WORKING. -/
def State.blockChildren (s : State) : State :=
  if s.link.op = 0 then s.forEachSat fun a t => t.blockOne (.sat a) opControlBlocked else s

theorem opBlock_link_eq :
    s.opBlock .link flag =
      if hasBit flag (opFail ||| opErrorSecond) then (s.blockChildren.blockOne .link flag).reestArm
      else s.blockChildren.blockOne .link flag := rfl

theorem opBlock_link_sats : (s.opBlock .link flag).sats = s.blockChildren.sats := by
  rw [opBlock_link_eq]
  split <;> simp

theorem opBlock_link_slots : (s.opBlock .link flag).slots = s.blockChildren.slots := by
  rw [opBlock_link_eq]
  split <;> simp

/-- The children of a Link that was WORKING, blocked. -/
theorem blockChildren_at (h : s.Shape) (a : Nat) :
    (s.blockChildren.sat a =
        if s.link.op = 0 ∧ s.satPresent a = true then { s.sat a with op := (s.sat a).op ||| opControlBlocked }
        else s.sat a)
      ∧ s.blockChildren.slot a =
        if s.link.op = 0 ∧ s.satPresent a = true then
          { s.slot a with
            txDirty := (s.slot a).txDirty || decide ((s.sat a).op ||| opControlBlocked ≠ (s.sat a).op) }
        else s.slot a := by
  unfold State.blockChildren
  by_cases hop : s.link.op = 0
  · have hall := blockAll_at s opControlBlocked h a
    simpa only [hop, true_and, if_true] using hall
  · rw [if_neg hop, if_neg (not_and_of_not_left _ hop), if_neg (not_and_of_not_left _ hop)]
    exact ⟨rfl, rfl⟩

theorem opBlock_link_sat (h : s.Shape) (a : Nat) :
    (s.opBlock .link flag).sat a =
      if s.link.op = 0 ∧ s.satPresent a = true then { s.sat a with op := (s.sat a).op ||| opControlBlocked }
      else s.sat a :=
  (sat_congr (opBlock_link_sats s flag) a).trans (blockChildren_at s h a).1

theorem opBlock_link_slot (h : s.Shape) (i : Nat) :
    (s.opBlock .link flag).slot i =
      if s.link.op = 0 ∧ s.satPresent i = true ∧ (s.sat i).op ||| opControlBlocked ≠ (s.sat i).op then
        { s.slot i with txDirty := true }
      else s.slot i := by
  rw [slot_congr (opBlock_link_slots s flag), (blockChildren_at s h i).2]
  by_cases hc : s.link.op = 0 ∧ s.satPresent i = true
  · rw [if_pos hc, txDirty_or_decide]
    exact if_congr ⟨fun hne => ⟨hc.1, hc.2, hne⟩, fun h3 => h3.2.2⟩ rfl rfl
  · rw [if_neg hc, if_neg fun h3 => hc ⟨h3.1, h3.2.1⟩]

theorem blockChildren_queue :
    s.blockChildren.queue =
      (s.emitAll (if s.link.op = 0 then
        s.children.map fun a => .opState (.sat a) ((s.sat a).op ||| opControlBlocked) else [])).queue := by
  unfold State.blockChildren
  split
  · exact forEachSat_queue s (ev := fun a x => .opState (.sat a) (x.op ||| opControlBlocked))
      (fun a t => blockOne_local t a _) fun a t => blockOne_queue t (.sat a) _
  · rfl

theorem reestArm_queue : s.reestArm.queue = s.queue := by
  rw [queue_eq_iff]
  exact ⟨reestArm_evq s, reestArm_evOvf s⟩

theorem blockChildren_cfg : s.blockChildren.cfg = s.cfg := by
  unfold State.blockChildren
  split
  · exact forEachSat_keeps s State.cfg (by simp)
  · rfl

theorem blockChildren_link : s.blockChildren.link = s.link := by
  unfold State.blockChildren
  split
  · exact forEachSat_block_link s _
  · rfl

theorem blockChildren_env : s.blockChildren.env = s.env := by
  unfold State.blockChildren
  split
  · exact forEachSat_keeps s State.env (by simp)
  · rfl

/-- R210: the satellites are told before the Link. -/
theorem opBlock_link_queue :
    (s.opBlock .link flag).queue =
      (s.emitAll ((if s.link.op = 0 then
          s.children.map fun a => .opState (.sat a) ((s.sat a).op ||| opControlBlocked) else [])
        ++ [.opState .link (s.link.op ||| flag)])).queue := by
  have hlink : (s.blockChildren.blockOne .link flag).queue
      = (s.blockChildren.emit (.opState .link (s.link.op ||| flag))).queue := by
    rw [blockOne_queue, State.op, blockChildren_link]
  have hblocked : (s.opBlock .link flag).queue = (s.blockChildren.blockOne .link flag).queue := by
    rw [opBlock_link_eq]
    split
    · exact reestArm_queue _
    · rfl
  rw [hblocked, hlink, emitAll_append]
  exact emit_queue_congr (by rw [blockChildren_cfg, emitAll_cfg]) (blockChildren_queue s) _

theorem tick_env_congr {s t : State} (h : t.env = s.env) : t.tick.env = s.tick.env := by
  unfold State.tick
  rw [h]
  split <;> rfl

/-- R220: FAIL and ERROR_SECOND arm the timer, by a clock read of its own (log 20). -/
theorem opBlock_link_armed (h : hasBit flag (opFail ||| opErrorSecond) = true) :
    (s.opBlock .link flag).env = s.tick.env
      ∧ (s.opBlock .link flag).reest = ⟨true, s.tick.env.clock + s.cfg.tReestablishMs⟩ := by
  let u := s.blockChildren.blockOne .link flag
  have henv : u.tick.env = s.tick.env := tick_env_congr (by rw [blockOne_env, blockChildren_env])
  have hcfg : u.tick.cfg = s.cfg := by rw [tick_cfg, blockOne_cfg, blockChildren_cfg]
  rw [opBlock_link_eq, if_pos h]
  refine ⟨henv, ?_⟩
  show (⟨true, u.tick.env.clock + u.tick.cfg.tReestablishMs⟩ : ReestRegs) = _
  rw [henv, hcfg]

theorem hasBit_timer : hasBit flag (opFail ||| opErrorSecond) = true ↔ flag &&& 0x18#5 ≠ 0 := by
  have hmask : opFail ||| opErrorSecond = 0x18#5 := by decide
  rw [hasBit, hmask, decide_eq_true_eq]

end LinkBlocked

section LinkDeblocked

variable (s : State) (flag : OpState)

/-- R212: `opDeBlock` makes the Link WORKING from a blocked state. -/
abbrev State.wakes (s : State) (flag : OpState) : Prop := s.link.op ≠ 0 ∧ s.link.op &&& ~~~flag = 0

/-- The Link with the flag cleared, before any cascade. -/
def State.linkFreed (s : State) (flag : OpState) : State := s.setLink { s.link with op := s.link.op &&& ~~~flag }

/-- R211: the cascade of `opDeBlock`. -/
def State.freeChildren (s : State) : State := s.forEachSat fun a t => t.deblockSat a opControlBlocked

theorem opDeBlock_link_of_wakes (h : s.wakes flag) :
    s.opDeBlock .link flag =
      ((s.linkFreed flag).freeChildren.resetCounters .link).emit (.opState .link (s.link.op &&& ~~~flag)) :=
  congrArg (State.emit · _) (if_pos h)

theorem opDeBlock_link_of_not_wakes (h : ¬ s.wakes flag) :
    s.opDeBlock .link flag = (s.linkFreed flag).emit (.opState .link (s.link.op &&& ~~~flag)) :=
  congrArg (State.emit · _) (if_neg h)

theorem linkFreed_shape (h : s.Shape) : (s.linkFreed flag).Shape := by
  obtain ⟨h1, h2, h3, h4, h5, h6, h7⟩ := h
  exact ⟨h1, h2, h3, h4, h5, h6, h7⟩

/-- The counters of a satellite that `opDeBlock` makes WORKING are reset (R213). -/
theorem deblockSat_sat_cases (a : Nat) (h : a < s.sats.length) :
    (s.deblockSat a flag).sat a =
      if (s.sat a).op ≠ 0 ∧ (s.sat a).op &&& ~~~flag = 0 then
        { s.sat a with op := 0, cum := SatCounters.zero, sec := SatCounters.zero, test := TestCounters.zero }
      else { s.sat a with op := (s.sat a).op &&& ~~~flag } := by
  rw [deblockSat_sat s a flag h]
  split
  · rename_i hw
    rw [hw.2]
  · rfl

theorem opDeBlock_link_sat (h : s.Shape) (a : Nat) :
    (s.opDeBlock .link flag).sat a =
      if s.wakes flag ∧ s.satPresent a = true then
        if (s.sat a).op ≠ 0 ∧ (s.sat a).op &&& ~~~opControlBlocked = 0 then
          { s.sat a with op := 0, cum := SatCounters.zero, sec := SatCounters.zero, test := TestCounters.zero }
        else { s.sat a with op := (s.sat a).op &&& ~~~opControlBlocked }
      else s.sat a := by
  by_cases hw : s.wakes flag
  · have hall := (deblockAll_at (s.linkFreed flag) opControlBlocked (linkFreed_shape s flag h) a).1
    rw [opDeBlock_link_of_wakes s flag hw, sat_congr (emit_sats _ _), sat_congr (resetCounters_link_sats _)]
    by_cases hp : s.satPresent a = true
    · rw [if_pos ⟨hw, hp⟩]
      exact hall.trans ((if_pos hp).trans
        (deblockSat_sat_cases (s.linkFreed flag) opControlBlocked a (present_lt hp).2))
    · rw [if_neg (not_and_of_not_right _ hp)]
      exact hall.trans (if_neg hp)
  · rw [opDeBlock_link_of_not_wakes s flag hw, sat_congr (emit_sats _ _), if_neg (not_and_of_not_left _ hw)]
    rfl

theorem opDeBlock_link_slot (h : s.Shape) (i : Nat) :
    (s.opDeBlock .link flag).slot i =
      if s.wakes flag ∧ s.satPresent i = true ∧ (s.sat i).op &&& ~~~opControlBlocked ≠ (s.sat i).op then
        { s.slot i with txDirty := true }
      else s.slot i := by
  by_cases hw : s.wakes flag
  · have hall := (deblockAll_at (s.linkFreed flag) opControlBlocked (linkFreed_shape s flag h) i).2
    rw [opDeBlock_link_of_wakes s flag hw, slot_congr (emit_slots _ _), slot_congr (resetCounters_slots _ _)]
    refine Eq.trans hall ?_
    by_cases hp : (s.linkFreed flag).satPresent i = true
    · rw [if_pos hp, deblockSat_slot _ _ _ (present_slot_lt (linkFreed_shape s flag h) hp), txDirty_or_decide]
      exact if_congr ⟨fun hne => ⟨hw, hp, hne⟩, fun hc => hc.2.2⟩ rfl rfl
    · rw [if_neg hp]
      exact (if_neg fun hc => hp hc.2.1).symm
  · rw [opDeBlock_link_of_not_wakes s flag hw, slot_congr (emit_slots _ _), if_neg fun hc => hw hc.1]
    rfl

theorem freeChildren_queue :
    s.freeChildren.queue =
      (s.emitAll (s.children.map fun a => .opState (.sat a) ((s.sat a).op &&& ~~~opControlBlocked))).queue :=
  forEachSat_queue s (ev := fun a x => .opState (.sat a) (x.op &&& ~~~opControlBlocked))
    (fun a t => deblockSat_local t a _) fun a t => deblockSat_queue t a _

/-- R212: the satellites are told before the Link. -/
theorem opDeBlock_link_queue :
    (s.opDeBlock .link flag).queue =
      (s.emitAll ((if s.wakes flag then
          s.children.map fun a => .opState (.sat a) ((s.sat a).op &&& ~~~opControlBlocked) else [])
        ++ [.opState .link (s.link.op &&& ~~~flag)])).queue := by
  rw [emitAll_append]
  by_cases hw : s.wakes flag
  · rw [opDeBlock_link_of_wakes s flag hw, if_pos hw]
    refine emit_queue_congr ?_ ?_ _
    · rw [emitAll_cfg]
      have hlink : OpChange s (s.linkFreed flag) := (OpChange.refl s).setLink rfl
      exact ((hlink.forEachSat fun a _ hu => hu.deblockSat a opControlBlocked).resetCounters .link).cfg
    · have hfreed := freeChildren_queue (s.linkFreed flag)
      have hqueue : ((s.linkFreed flag).freeChildren.resetCounters .link).queue = (s.linkFreed flag).freeChildren.queue := by
        simp [State.queue]
      exact (hqueue.trans hfreed).trans (emitAll_queue_congr (s := s) (t := s.linkFreed flag) rfl rfl _)
  · rw [opDeBlock_link_of_not_wakes s flag hw, if_neg hw]
    exact emit_queue_congr (s := s) (t := s.linkFreed flag) rfl rfl _

end LinkDeblocked

end Sys2Proof.Machine

section OpBlockStatements

open Sys2Proof Sys2Proof.Machine

/-- Settles O46. -/
theorem opBlockRaisesTheFlag : Obligations.OpBlockRaisesTheFlag := by
  intro s flag hshape
  have hchange := (OpChange.refl s).opBlock .link flag
  refine ⟨⟨opBlock_link_link s flag, opBlock_link_sat s flag hshape, opBlock_link_slot s flag hshape,
    queue_eq_iff.mp (opBlock_link_queue s flag), fun htimer => opBlock_link_armed s flag ((hasBit_timer flag).mpr htimer),
    fun htimer => ?_, hchange.satsLength, hchange.slotsLength, hchange.frame⟩, fun a hpresent => ?_⟩
  · have hoff : hasBit flag (opFail ||| opErrorSecond) = false :=
      Bool.eq_false_iff.mpr fun hon => (hasBit_timer flag).mp hon htimer
    have hframe := opBlock_link_frame s hoff s.link s.sats s.slots s.evq s.evOvf
    exact ⟨(congrArg State.env hframe :), (congrArg State.reest hframe :)⟩
  · exact ⟨blockOne_sat s a flag (present_lt hpresent).2, blockOne_slot s a flag (present_slot_lt hshape hpresent),
      slots_sats_of_local (blockOne_local s a flag), (queue_eq_iff.mp (blockOne_queue s (.sat a) flag)).1,
      (queue_eq_iff.mp (blockOne_queue s (.sat a) flag)).2, blockOne_sat_frame s a flag⟩

/-- Settles O47. -/
theorem opDeBlockClearsTheFlag : Obligations.OpDeBlockClearsTheFlag := by
  intro s flag hshape
  have hchange := (OpChange.refl s).opDeBlock .link flag
  refine ⟨⟨opDeBlock_link_link s flag, fun a => ?_, opDeBlock_link_slot s flag hshape,
    queue_eq_iff.mp (opDeBlock_link_queue s flag), hchange.satsLength, hchange.slotsLength,
    opDeBlock_link_frame s flag s.link s.sats s.slots s.evq s.evOvf⟩, fun a hpresent => ?_⟩
  · exact opDeBlock_link_sat s flag hshape a
  · exact ⟨deblockSat_sat s a flag (present_lt hpresent).2, deblockSat_slot s a flag (present_slot_lt hshape hpresent),
      slots_sats_of_local (deblockSat_local s a flag), (queue_eq_iff.mp (deblockSat_queue s a flag)).1,
      (queue_eq_iff.mp (deblockSat_queue s a flag)).2, deblockSat_frame s a flag⟩

end OpBlockStatements

/-! # The administrative commands of a satellite (spec/46_host_commands.md R258, R259) -/

namespace Sys2Proof.Machine

section SatAdministration

variable {s : State} {a : Nat}

/-! ## The checks of R215 and R216 for a satellite -/

theorem admDeBlock_sat_of_enabled (h : (s.sat a).adm = .enable) : s.admDeBlock (.sat a) = .error .wrongState := by
  rw [State.admDeBlock, State.adm, h]
  rfl

theorem admDeBlock_sat_of_held (h : (s.sat a).adm = .disable) (hlink : s.link.adm = .disable) :
    s.admDeBlock (.sat a) = .error .dependencyNotBlocked := by
  rw [State.admDeBlock, State.adm, h, hlink]
  rfl

theorem admDeBlock_sat_of_free (h : (s.sat a).adm = .disable) (hlink : s.link.adm = .enable) :
    s.admDeBlock (.sat a) =
      .ok (((s.setAdm (.sat a) .enable).opDeBlock (.sat a) opDisabled).afterDeBlock (.sat a)) := by
  rw [State.admDeBlock, State.adm, h, hlink]
  rfl

theorem admBlock_sat_of_disabled (h : (s.sat a).adm = .disable) : s.admBlock (.sat a) = .error .wrongState := by
  rw [State.admBlock, State.adm, h]
  rfl

theorem admBlock_sat_of_enabled (h : (s.sat a).adm = .enable) :
    s.admBlock (.sat a) = .ok ((s.setAdm (.sat a) .disable).opBlock (.sat a) opDisabled) := by
  rw [State.admBlock, State.adm, h]
  rfl

/-! ## The implicit self-test of R218 -/

/-- A self-test that is asked for starts where none runs and the satellite is WORKING. -/
abbrev Sat.startsSelftest (x : Sat) : Prop := x.stPhase = .idle ∧ x.op = 0

theorem afterDeBlock_of_starts (h : (s.sat a).startsSelftest) : s.afterDeBlock (.sat a) = s.selftestStarted a true := by
  rw [State.afterDeBlock, selftestStart_of_working true h.1 h.2]

theorem afterDeBlock_of_not_starts (h : ¬ (s.sat a).startsSelftest) : s.afterDeBlock (.sat a) = s := by
  rw [State.afterDeBlock]
  by_cases hidle : (s.sat a).stPhase = .idle
  · rw [selftestStart_of_not_working true hidle fun hop => h ⟨hidle, hop⟩]
  · rw [selftestStart_of_running true hidle]

theorem afterDeBlock_eq :
    s.afterDeBlock (.sat a) = if (s.sat a).startsSelftest then s.selftestStarted a true else s := by
  split
  · exact afterDeBlock_of_starts ‹_›
  · exact afterDeBlock_of_not_starts ‹_›

/-! ## The satellite enabled -/

variable (s a)

/-- The satellite admin-enabled and its DISABLED cleared, before R218's self-test. -/
def State.satEnabled (s : State) (a : Nat) : State := (s.setAdm (.sat a) .enable).deblockSat a opDisabled

theorem setAdm_sat (adm : Adm) (h : a < s.sats.length) : (s.setAdm (.sat a) adm).sat a = { s.sat a with adm := adm } :=
  modifySat_sat h _

theorem setAdm_of_ne (adm : Adm) {j : Nat} (h : j ≠ a) :
    (s.setAdm (.sat a) adm).slots[j]? = s.slots[j]? ∧ (s.setAdm (.sat a) adm).sats[j]? = s.sats[j]? :=
  ⟨rfl, modifySat_sats_of_ne _ h⟩

theorem satEnabled_sat (h : a < s.sats.length) :
    let x := s.sat a
    let op := x.op &&& ~~~opDisabled
    let woken := x.op ≠ 0 ∧ op = 0
    (s.satEnabled a).sat a =
      { x with
        adm := .enable
        op := op
        cum := if woken then SatCounters.zero else x.cum
        sec := if woken then SatCounters.zero else x.sec
        test := if woken then TestCounters.zero else x.test } := by
  have hlt : a < (s.setAdm (.sat a) .enable).sats.length := h.trans_eq (modifySat_length s a _).symm
  rw [State.satEnabled, deblockSat_sat _ a _ hlt, setAdm_sat s a .enable h]

theorem satEnabled_slot (hs : a < s.sats.length) (h : a < s.slots.length) :
    (s.satEnabled a).slot a =
      { s.slot a with
        txDirty := (s.slot a).txDirty || decide ((s.sat a).op &&& ~~~opDisabled ≠ (s.sat a).op) } := by
  rw [State.satEnabled, deblockSat_slot (s.setAdm (.sat a) .enable) a _ h, setAdm_sat s a .enable hs]
  rfl

theorem satEnabled_of_ne (j : Nat) (h : j ≠ a) :
    (s.satEnabled a).slots[j]? = s.slots[j]? ∧ (s.satEnabled a).sats[j]? = s.sats[j]? := by
  obtain ⟨hslot, hsat⟩ := slots_sats_of_local (deblockSat_local (s.setAdm (.sat a) .enable) a opDisabled) j h
  exact ⟨hslot, hsat.trans (setAdm_of_ne s a .enable h).2⟩

theorem satEnabled_queue (h : a < s.sats.length) :
    (s.satEnabled a).queue = (s.emit (.opState (.sat a) ((s.sat a).op &&& ~~~opDisabled))).queue := by
  rw [State.satEnabled, deblockSat_queue, setAdm_sat s a .enable h]
  exact emit_queue_congr (s := s) (t := s.setAdm (.sat a) .enable) rfl rfl _

theorem satEnabled_lengths :
    (s.satEnabled a).sats.length = s.sats.length ∧ (s.satEnabled a).slots.length = s.slots.length := by
  simp [State.satEnabled, State.setAdm]

theorem satEnabled_frame :
    { s.satEnabled a with sats := s.sats, slots := s.slots, evq := s.evq, evOvf := s.evOvf } = s :=
  congrArg (State.setSats · s.sats) (deblockSat_frame (s.setAdm (.sat a) .enable) a opDisabled)

/-! ## With the self-test of R218 -/

theorem satEnabled_starts_iff (h : a < s.sats.length) :
    ((s.satEnabled a).sat a).startsSelftest ↔ (s.sat a).stPhase = .idle ∧ (s.sat a).op &&& ~~~opDisabled = 0 := by
  rw [satEnabled_sat s a h]

/-- The state after a SATENABLE that succeeds. -/
def State.satEnabledTested (s : State) (a : Nat) : State := (s.satEnabled a).afterDeBlock (.sat a)

theorem satEnabledTested_of_starts (h : a < s.sats.length)
    (hstarts : (s.sat a).stPhase = .idle ∧ (s.sat a).op &&& ~~~opDisabled = 0) :
    s.satEnabledTested a = (s.satEnabled a).selftestStarted a true :=
  afterDeBlock_of_starts ((satEnabled_starts_iff s a h).mpr hstarts)

theorem satEnabledTested_of_not_starts (h : a < s.sats.length)
    (hstarts : ¬ ((s.sat a).stPhase = .idle ∧ (s.sat a).op &&& ~~~opDisabled = 0)) :
    s.satEnabledTested a = s.satEnabled a :=
  afterDeBlock_of_not_starts (mt (satEnabled_starts_iff s a h).mp hstarts)

theorem satEnabledTested_sat (h : a < s.sats.length) :
    let x := s.sat a
    let op := x.op &&& ~~~opDisabled
    let woken := x.op ≠ 0 ∧ op = 0
    let starts := x.stPhase = .idle ∧ op = 0
    (s.satEnabledTested a).sat a =
      { x with
        adm := .enable
        op := op
        cum := if woken then SatCounters.zero else x.cum
        sec := if woken then SatCounters.zero else x.sec
        test := if woken ∨ starts then TestCounters.zero else x.test
        stPhase := if starts then .srv else x.stPhase
        stCnt := if starts then BitVec.ofNat 16 s.cfg.selftestPhaseCycles else x.stCnt
        stImplicit := if starts then true else x.stImplicit } := by
  intro x op woken starts
  have hcfg : (s.satEnabled a).cfg = s.cfg := (congrArg State.cfg (satEnabled_frame s a) :)
  have hx : (s.satEnabled a).sat a = _ := satEnabled_sat s a h
  by_cases hstarts : starts
  · rw [satEnabledTested_of_starts s a h hstarts,
      selftestStarted_sat true (h.trans_eq (satEnabled_lengths s a).1.symm), hx, hcfg]
    simp only [hstarts, or_true, if_true]
    rfl
  · rw [satEnabledTested_of_not_starts s a h hstarts, hx]
    simp only [hstarts, or_false, if_false]
    rfl

theorem satEnabledTested_slot (hs : a < s.sats.length) (h : a < s.slots.length) :
    let op := (s.sat a).op &&& ~~~opDisabled
    let starts := (s.sat a).stPhase = .idle ∧ op = 0
    (s.satEnabledTested a).slot a =
      { s.slot a with
        txReq := if starts then { (s.slot a).txReq with srv := true } else (s.slot a).txReq
        txDirty := (s.slot a).txDirty || decide (op ≠ (s.sat a).op) || decide starts } := by
  intro op starts
  have hsl : (s.satEnabled a).slot a = _ := satEnabled_slot s a hs h
  by_cases hstarts : starts
  · rw [satEnabledTested_of_starts s a hs hstarts,
      selftestStarted_slot true (h.trans_eq (satEnabled_lengths s a).2.symm), hsl, if_pos hstarts,
      decide_eq_true hstarts, Bool.or_true]
  · rw [satEnabledTested_of_not_starts s a hs hstarts, hsl, if_neg hstarts, decide_eq_false hstarts, Bool.or_false]

theorem satEnabledTested_of_ne (h : a < s.sats.length) (j : Nat) (hj : j ≠ a) :
    (s.satEnabledTested a).slots[j]? = s.slots[j]? ∧ (s.satEnabledTested a).sats[j]? = s.sats[j]? := by
  obtain ⟨hslot, hsat⟩ := satEnabled_of_ne s a j hj
  by_cases hstarts : (s.sat a).stPhase = .idle ∧ (s.sat a).op &&& ~~~opDisabled = 0
  · obtain ⟨hslot', hsat'⟩ := selftestStarted_of_ne (s := s.satEnabled a) true hj
    rw [satEnabledTested_of_starts s a h hstarts]
    exact ⟨hslot'.trans hslot, hsat'.trans hsat⟩
  · rw [satEnabledTested_of_not_starts s a h hstarts]
    exact ⟨hslot, hsat⟩

/-- The self-test that starts writes its satellite and slot alone. -/
theorem satEnabledTested_frame (x : List Sat) (y : List Slot) :
    { s.satEnabledTested a with sats := x, slots := y } = { s.satEnabled a with sats := x, slots := y } := by
  rw [State.satEnabledTested, afterDeBlock_eq]
  split <;> rfl

end SatAdministration

end Sys2Proof.Machine

section SatAdministrationStatements

open Sys2Proof Sys2Proof.Machine

/-- Settles O17: the command is R216 for a satellite, and the implicit self-test starts as R230 asks. -/
theorem satEnableStartsASelftest : Obligations.SatEnableStartsASelftest := by
  intro s f hshape a bad x op woken starts
  have hadmits : s.admits (.satenable f) = true ↔ ¬ bad := admits_of_sat_alone rfl rfl
  have hchecked (h : ¬ bad) (hpresent : s.satPresent a = true) :
      s.checked (.satenable f) = (s.admDeBlock (.sat a)).map fun t => (t, 0) :=
    checked_of_present (hadmits.mpr h) hpresent
  refine ⟨exec_of_failed_check hadmits, fun h => exec_of_absent (hadmits.mpr h) rfl,
    fun h hpresent hadm => exec_of_map_error (hchecked h hpresent) (admDeBlock_sat_of_enabled hadm),
    fun h hpresent hadm hlink => exec_of_map_error (hchecked h hpresent) (admDeBlock_sat_of_held hadm hlink),
    fun h hpresent hadm hlink => ?_⟩
  have hsat := (present_lt hpresent).2
  have hslot := present_slot_lt hshape hpresent
  have hqueue := queue_eq_iff.mp (satEnabled_queue s a hsat)
  have hframe := satEnabledTested_frame s a s.sats s.slots
  have hhost : (s.satEnabledTested a).host = s.host :=
    (congrArg State.host hframe :).trans (congrArg State.host (satEnabled_frame s a) :)
  have hexec : exec (.satenable f) s = .next ((s.satEnabledTested a).ended 0x00 0) :=
    exec_of_map_ok (hchecked h hpresent) (admDeBlock_sat_of_free hadm hlink)
  have htested := satEnabledTested_sat s a hsat
  have htestedSlot := satEnabledTested_slot s a hsat hslot
  have hothers := satEnabledTested_of_ne s a hsat
  have henabled := satEnabled_frame s a
  generalize s.satEnabledTested a = t at *
  generalize s.satEnabled a = u at *
  exact ⟨t.ended 0x00 0, hexec, congrArg (fun r : HostRegs => { r with result := 0x00, rdata := 0 }) hhost,
    htested, htestedSlot, hothers, (congrArg State.evq hframe :).trans hqueue.1,
    (congrArg State.evOvf hframe :).trans hqueue.2,
    (congrArg (fun t : State => (t.setEvents s.evq s.evOvf).setHost s.host) hframe).trans
      (congrArg (State.setHost · s.host) henabled)⟩

/-- Settles O18: the command is R215 for a satellite, and `opBlock` sets DISABLED. -/
theorem satDisableBlocksTheSatellite : Obligations.SatDisableBlocksTheSatellite := by
  intro s f hshape a bad x op
  have hadmits : s.admits (.satdisable f) = true ↔ ¬ bad := admits_of_sat_alone rfl rfl
  have hchecked (h : ¬ bad) (hpresent : s.satPresent a = true) :
      s.checked (.satdisable f) = (s.admBlock (.sat a)).map fun t => (t, 0) :=
    checked_of_present (hadmits.mpr h) hpresent
  refine ⟨exec_of_failed_check hadmits, fun h => exec_of_absent (hadmits.mpr h) rfl,
    fun h hpresent hadm => exec_of_map_error (hchecked h hpresent) (admBlock_sat_of_disabled hadm),
    fun h hpresent hadm => ?_⟩
  have hlt := (present_lt hpresent).2
  have hslot : a < s.slots.length := present_slot_lt hshape hpresent
  let u := s.setAdm (.sat a) .disable
  have hsat : u.sat a = { x with adm := .disable } := setAdm_sat s a .disable hlt
  have hult : a < u.sats.length := hlt.trans_eq (modifySat_length s a _).symm
  have hqueue : (u.blockOne (.sat a) opDisabled).queue = (s.emit (.opState (.sat a) op)).queue := by
    rw [blockOne_queue, State.op, hsat]
    exact emit_queue_congr (s := s) (t := u) rfl rfl _
  refine ⟨_, exec_of_map_ok (hchecked h hpresent) (admBlock_sat_of_enabled hadm),
    congrArg (fun r : HostRegs => { r with result := 0x00, rdata := 0 }) (blockOne_host u (.sat a) opDisabled),
    (blockOne_sat u a opDisabled hult).trans (by rw [hsat]; rfl),
    (blockOne_slot u a opDisabled hslot).trans (by rw [hsat]; rfl), fun j hj => ?_,
    (queue_eq_iff.mp hqueue).1, (queue_eq_iff.mp hqueue).2,
    congrArg (fun t : State => (t.setSats s.sats).setHost s.host) (blockOne_sat_frame u a opDisabled)⟩
  obtain ⟨hslot, hother⟩ := slots_sats_of_local (blockOne_local u a opDisabled) j hj
  exact ⟨hslot, hother.trans (setAdm_of_ne s a .disable hj).2⟩

end SatAdministrationStatements

/-! # What every command leaves alone, and how it ends (spec/46_host_commands.md R250, spec/60_exceptions.md R281, R283) -/

namespace Sys2Proof.Machine

section CommandFrames

variable {s t u : State}

/-- From `s` to `t` only what a command's effect may write has changed: nothing of the scan engine's own, no existence
of a satellite, and of discovery the start request alone. -/
structure CommandFrame (s t : State) : Prop where
  frame : { t with
    link := s.link, sats := s.sats, slots := s.slots, disc := s.disc, evq := s.evq, evOvf := s.evOvf } = s
  noOfSats : t.link.noOfSats = s.link.noOfSats
  disc : t.disc = { s.disc with pending := t.disc.pending }
  present : ∀ a, (t.sat a).present = (s.sat a).present
  txBytes : ∀ i, (t.slot i).txBytes = (s.slot i).txBytes
  rxBytes : ∀ i, (t.slot i).rxBytes = (s.slot i).rxBytes
  tm : ∀ i, (t.slot i).tm = (s.slot i).tm
  status : ∀ i, { (t.slot i).status with dirty := (s.slot i).status.dirty } = (s.slot i).status

/-- Where the slots are untouched. -/
theorem CommandFrame.ofSlots (frame : { t with
      link := s.link, sats := s.sats, slots := s.slots, disc := s.disc, evq := s.evq, evOvf := s.evOvf } = s)
    (noOfSats : t.link.noOfSats = s.link.noOfSats) (disc : t.disc = { s.disc with pending := t.disc.pending })
    (present : ∀ a, (t.sat a).present = (s.sat a).present) (hslots : t.slots = s.slots) : CommandFrame s t where
  frame := frame
  noOfSats := noOfSats
  disc := disc
  present := present
  txBytes i := by rw [slot_congr hslots]
  rxBytes i := by rw [slot_congr hslots]
  tm i := by rw [slot_congr hslots]
  status i := by rw [slot_congr hslots]

theorem CommandFrame.refl (s : State) : CommandFrame s s := .ofSlots rfl rfl rfl (fun _ => rfl) rfl

theorem CommandFrame.trans (h : CommandFrame s t) (h' : CommandFrame t u) : CommandFrame s u where
  frame := (congrArg (fun v : State => { v with
    link := s.link, sats := s.sats, slots := s.slots, disc := s.disc, evq := s.evq, evOvf := s.evOvf }) h'.frame).trans
    h.frame
  noOfSats := h'.noOfSats.trans h.noOfSats
  disc := h'.disc.trans (by rw [h.disc])
  present a := (h'.present a).trans (h.present a)
  txBytes i := (h'.txBytes i).trans (h.txBytes i)
  rxBytes i := (h'.rxBytes i).trans (h.rxBytes i)
  tm i := (h'.tm i).trans (h.tm i)
  status i := (congrArg (fun x : Status => { x with dirty := (s.slot i).status.dirty }) (h'.status i)).trans (h.status i)

/-- An operation of the state machine that reads no clock. -/
theorem CommandFrame.ofOpChange (h : OpChange s t) (henv : t.env = s.env) (hreest : t.reest = s.reest) :
    CommandFrame s t where
  frame := by
    have hframe := congrArg (fun v : State => (v.setEnv t.env).setReest t.reest) h.frame
    exact ((congrArg (State.setDisc · s.disc) hframe).trans (by rw [henv, hreest]) :)
  noOfSats := h.noOfSats
  disc := by rw [h.disc]
  present := h.present
  txBytes i := (congrArg Slot.txBytes (h.slot i) :)
  rxBytes i := (congrArg Slot.rxBytes (h.slot i) :)
  tm i := (congrArg Slot.tm (h.slot i) :)
  status i := by
    have hstatus : (t.slot i).status = (s.slot i).status := (congrArg Slot.status (h.slot i) :)
    rw [hstatus]

theorem CommandFrame.modifySat (a : Nat) {g : Sat → Sat} (hg : ∀ x, (g x).present = x.present) :
    CommandFrame s (s.modifySat a g) := by
  refine .ofSlots rfl rfl rfl (fun c => ?_) rfl
  rw [sat_modifySat]
  split
  · exact hg _
  · rfl

theorem CommandFrame.modifySlot (i : Nat) {g : Slot → Slot}
    (hg : ∀ sl, (g sl).txBytes = sl.txBytes ∧ (g sl).rxBytes = sl.rxBytes ∧ (g sl).tm = sl.tm
      ∧ { (g sl).status with dirty := sl.status.dirty } = sl.status) : CommandFrame s (s.modifySlot i g) := by
  have hslot (j : Nat) : (s.modifySlot i g).slot j = g (s.slot j) ∨ (s.modifySlot i g).slot j = s.slot j := by
    rw [slot_modifySlot]
    split
    · exact .inl rfl
    · exact .inr rfl
  refine ⟨rfl, rfl, rfl, fun _ => rfl, fun j => ?_, fun j => ?_, fun j => ?_, fun j => ?_⟩ <;>
    rcases hslot j with hj | hj <;> rw [hj] <;> simp only [hg]

theorem CommandFrame.setLink {l : LinkRegs} (h : l.noOfSats = s.link.noOfSats) : CommandFrame s (s.setLink l) :=
  .ofSlots rfl h rfl (fun _ => rfl) rfl

theorem CommandFrame.setAdm (e : Entity) (adm : Adm) : CommandFrame s (s.setAdm e adm) := by
  cases e with
  | link => exact .setLink rfl
  | sat a => exact .modifySat a fun _ => rfl

theorem CommandFrame.opBlock (e : Entity) {flag : OpState} (h : hasBit flag (opFail ||| opErrorSecond) = false) :
    CommandFrame s (s.opBlock e flag) := by
  have hchange := (OpChange.refl s).opBlock e flag
  cases e with
  | link => exact .ofOpChange hchange (opBlock_link_of_no_timer s h).2 (opBlock_link_of_no_timer s h).1
  | sat a => exact .ofOpChange hchange (blockOne_env s _ _) (blockOne_reest s _ _)

theorem CommandFrame.opDeBlock (e : Entity) (flag : OpState) : CommandFrame s (s.opDeBlock e flag) :=
  .ofOpChange ((OpChange.refl s).opDeBlock e flag) (opDeBlock_env s e flag) (opDeBlock_reest s e flag)

theorem CommandFrame.selftestStarted (a : Nat) (implicit : Bool) : CommandFrame s (s.selftestStarted a implicit) :=
  (CommandFrame.modifySlot (s := s) a (g := fun sl => { sl with txReq := sl.txReq.set .srv true, txDirty := true })
    fun _ => ⟨rfl, rfl, rfl, rfl⟩).trans (.modifySat a fun _ => rfl)

theorem CommandFrame.afterDeBlock (e : Entity) : CommandFrame s (s.afterDeBlock e) := by
  cases e with
  | link => exact .ofSlots rfl rfl rfl (fun _ => rfl) rfl
  | sat a =>
    rw [afterDeBlock_eq]
    split
    · exact .selftestStarted a true
    · exact .refl s

/-- Everything a command's effect leaves alone. -/
theorem Succeeds.commandFrame {v : Word} (h : Succeeds s t v) : CommandFrame s t := by
  cases h with
  | same => exact .refl s
  | tx a g _ keeps =>
    refine .modifySlot a fun sl => ?_
    have hsl := keeps sl
    exact ⟨(congrArg Slot.txBytes hsl :), (congrArg Slot.rxBytes hsl :), (congrArg Slot.tm hsl :),
      (congrArg (fun x : Slot => { x.status with dirty := sl.status.dirty }) hsl :)⟩
  | linkThres => exact .setLink rfl
  | satThres a => exact .modifySat a fun _ => rfl
  | linkCounters => exact .setLink rfl
  | satCounters a g _ _ keeps => exact .modifySat a fun x => (congrArg Sat.present (keeps x) :)
  | consume a => exact .modifySlot a fun _ => ⟨rfl, rfl, rfl, rfl⟩
  | linkEnable => exact ((CommandFrame.setAdm _ _).trans (.opDeBlock _ _)).trans (.afterDeBlock _)
  | linkDisable => exact (CommandFrame.setAdm _ _).trans (.opBlock _ rfl)
  | satEnable => exact ((CommandFrame.setAdm _ _).trans (.opDeBlock _ _)).trans (.afterDeBlock _)
  | satDisable => exact (CommandFrame.setAdm _ _).trans (.opBlock _ rfl)
  | selftest a _ _ starts =>
    obtain ⟨_, _, rfl⟩ := selftestStart_ok starts
    exact .selftestStarted a false

theorem Succeeds.host {v : Word} (h : Succeeds s t v) : t.host = s.host := (congrArg State.host h.commandFrame.frame :)

/-- How a command ends: with an error and no effect, or with OK and its effect. -/
theorem exec_ends (s : State) (i : Instr) :
    (∃ code : ResultCode, exec i s = .next (s.ended code.code 0))
      ∨ ∃ t v, Succeeds s t v ∧ exec i s = .next (t.ended 0x00 v) := exec_spec s i

end CommandFrames

/-! ## The result codes (R281) -/

section ResultCodes

variable {s : State}

theorem admDeBlock_error {e : Entity} {code : ResultCode} (h : s.admDeBlock e = .error code) :
    code = .wrongState ∨ e ≠ .link ∧ code = .dependencyNotBlocked := by
  unfold State.admDeBlock at h
  split at h
  · cases h
    exact .inl rfl
  split at h
  · rename_i hsat
    cases h
    exact .inr ⟨hsat.1, rfl⟩
  · cases h

theorem admBlock_error {e : Entity} {code : ResultCode} (h : s.admBlock e = .error code) :
    code = .wrongState ∨ e = .link ∧ code = .dependencyNotBlocked := by
  unfold State.admBlock at h
  split at h
  · cases h
    exact .inl rfl
  split at h
  · rename_i hlink
    cases h
    exact .inr ⟨hlink.1, rfl⟩
  · cases h

theorem selftestStart_error {a : Nat} {implicit : Bool} {code : ResultCode}
    (h : s.selftestStart a implicit = .error code) : code = .busy ∨ code = .wrongState := by
  unfold State.selftestStart at h
  split at h
  · cases h
    exact .inl rfl
  split at h
  · cases h
    exact .inr rfl
  · cases h

theorem map_error {r : Except ResultCode State} {code : ResultCode}
    (h : (r.map fun t => (t, (0 : Word))) = .error code) : r = .error code := by
  cases r with
  | error c => exact congrArg _ (Except.error.inj h)
  | ok t => cases h

/-- Every error of a command's effect is in its row of the table. -/
theorem effect_error {i : Instr} {code : ResultCode} (h : s.effect i = .error code) : code.code ∈ resultCodes i := by
  cases i with
  | nop f | setactval f | setactmode f | setsaten f | setlinkthres f | setsatthres f | rdsatstate f
  | consumestatus f => cases h
  | illegal0f f | illegal1x lo f | illegal2x lo f | illegal4x lo f | illegal8x lo f =>
    cases h
    simp [resultCodes, ResultCode.code]
  | linkenable f =>
    rcases admDeBlock_error (map_error h) with rfl | ⟨hne, -⟩
    · simp [resultCodes, ResultCode.code]
    · exact absurd rfl hne
  | linkdisable f =>
    rcases admBlock_error (map_error h) with rfl | ⟨-, rfl⟩ <;> simp [resultCodes, ResultCode.code]
  | satenable f =>
    rcases admDeBlock_error (map_error h) with rfl | ⟨-, rfl⟩ <;> simp [resultCodes, ResultCode.code]
  | satdisable f =>
    rcases admBlock_error (map_error h) with rfl | ⟨heq, -⟩
    · simp [resultCodes, ResultCode.code]
    · cases heq
  | selftest f =>
    rcases selftestStart_error (map_error h) with rfl | rfl <;> simp [resultCodes, ResultCode.code]
  | rdlinkcnt f =>
    rw [State.effect] at h
    split at h
    · cases h
      simp [resultCodes, ResultCode.code]
    · cases h
  | rdsatcnt f =>
    rw [State.effect] at h
    split at h
    · cases h
      exact List.mem_cons_of_mem _ (List.mem_cons_self ..)
    · cases h

theorem ok_mem_or_illegal (i : Instr) : 0x00 ∈ resultCodes i ∨ usedFields i = none := by
  cases i with
  | illegal0f f | illegal1x lo f | illegal2x lo f | illegal4x lo f | illegal8x lo f => exact .inr rfl
  | _ => exact .inl (List.mem_cons_self ..)

theorem effect_of_illegal {i : Instr} (h : usedFields i = none) : s.effect i = .error .badParameter := by
  cases i with
  | illegal0f f | illegal1x lo f | illegal2x lo f | illegal4x lo f | illegal8x lo f => rfl
  | _ => cases h

theorem badParameter_mem (i : Instr) : 0x06 ∈ resultCodes i := by
  cases i <;> simp [resultCodes]

theorem notFound_mem {i : Instr} (h : addressesSat i = true) : 0x05 ∈ resultCodes i := by
  cases i with
  | setactval f | setactmode f | setsaten f | satenable f | satdisable f | selftest f | setsatthres f | rdsatcnt f
  | rdsatstate f | consumestatus f => simp [resultCodes]
  | _ => cases h

/-- The code that a command's checks and effect end with. -/
theorem checked_code_mem (i : Instr) : (s.finish (s.checked i)).host.result ∈ resultCodes i := by
  unfold State.checked
  split
  · exact badParameter_mem i
  split
  · rename_i habsent
    exact notFound_mem (Bool.and_eq_true _ _ ▸ habsent).1
  · cases heffect : s.effect i with
    | error code => exact effect_error heffect
    | ok r =>
      refine (ok_mem_or_illegal i).resolve_right fun hillegal => ?_
      rw [effect_of_illegal hillegal] at heffect
      cases heffect

end ResultCodes

end Sys2Proof.Machine

section EveryCommandStatements

open Sys2Proof Sys2Proof.Machine

/-- Settles O8. -/
theorem commandErrorsHaveNoOtherEffect : Obligations.CommandErrorsHaveNoOtherEffect := by
  intro s i
  rcases exec_ends s i with ⟨code, hexec⟩ | ⟨t, v, hsucceeds, hexec⟩
  · exact ⟨_, hexec, fun _ => rfl, rfl⟩
  · exact ⟨_, hexec, fun hne => absurd rfl hne, (congrArg HostRegs.arg hsucceeds.host :)⟩

/-- Settles O9. -/
theorem resultCodesOfTheCommands : Obligations.ResultCodesOfTheCommands := fun s i =>
  ⟨_, exec_eq_checked s i, checked_code_mem i⟩

/-- Settles O10. -/
theorem commandsLeaveTheScanEngineAlone : Obligations.CommandsLeaveTheScanEngineAlone := by
  intro s i
  obtain ⟨t, code, v, hframe, hexec⟩ : ∃ t code v, CommandFrame s t ∧ exec i s = .next (t.ended code v) := by
    rcases exec_ends s i with ⟨code, hexec⟩ | ⟨t, v, hsucceeds, hexec⟩
    · exact ⟨s, code.code, 0, .refl s, hexec⟩
    · exact ⟨t, 0x00, v, hsucceeds.commandFrame, hexec⟩
  have hrest := hframe.frame
  have hcfg : t.cfg = s.cfg := (congrArg State.cfg hrest :)
  exact ⟨_, hexec, hcfg, (congrArg State.scanPhase hrest :), (congrArg State.conf hrest :),
    (congrArg State.cyc hrest :), (congrArg State.time hrest :), (congrArg State.line hrest :),
    (congrArg State.env hrest :), (congrArg State.reest hrest :), (congrArg State.readValue hrest :), hframe.noOfSats,
    hframe.disc, fun a => congrArg₂ (fun (p : Config.Params) x => decide (a < p.maxSats) && x) hcfg (hframe.present a),
    fun j => ⟨hframe.txBytes j, hframe.rxBytes j, hframe.tm j, hframe.status j⟩⟩

end EveryCommandStatements

/-! # The start of discovery (spec/43_discovery.md R191 to R193)

Step 1 is opBlock of the Link, which H's lemmas describe, and the walk that destroys the satellites; step 2 puts the
probe on every slot. -/

namespace Sys2Proof.Machine

section Walks

variable (s : State)

/-- What a walk leaves of each satellite, where a visit makes `f` of its own. -/
theorem forEachSat_sat {g : Nat → State → State} {f : Sat → Sat} (hl : ∀ a t, Local a t (g a t))
    (hlen : ∀ a t, (g a t).sats.length = t.sats.length)
    (hg : ∀ a t, a < t.sats.length → (g a t).sat a = f (t.sat a)) (a : Nat) :
    (s.forEachSat g).sat a = if s.satPresent a = true then f (s.sat a) else s.sat a := by
  have hvisit := forEachSat_visits s (P := fun t => t.sats.length = s.sats.length) hl
    (fun a t ht _ => (hlen a t).trans ht) rfl a
  by_cases hp : s.satPresent a = true
  · rw [if_pos hp] at hvisit ⊢
    obtain ⟨u, hu, -, hat, hres⟩ := hvisit
    rw [sat_of_at hres, hg a u (hu ▸ (present_lt hp).2), sat_of_at hat]
  · rw [if_neg hp] at hvisit ⊢
    exact sat_of_at hvisit

/-- The events of a walk in which a visit emits events that its own satellite decides. -/
theorem forEachSat_queues {g : Nat → State → State} {evs : Nat → Sat → List Event} (hl : ∀ a t, Local a t (g a t))
    (he : ∀ a t, t.satPresent a = true → (g a t).queue = (t.emitAll (evs a (t.sat a))).queue) :
    (s.forEachSat g).queue = (s.emitAll (s.children.flatMap fun a => evs a (s.sat a))).queue := by
  unfold State.forEachSat State.children
  have hn : s.addresses.Nodup := List.nodup_range
  generalize s.addresses = l at hn
  induction l generalizing s with
  | nil => rfl
  | cons b l ih =>
    obtain ⟨hb, hn⟩ := List.nodup_cons.mp hn
    rw [List.foldl_cons, List.filter_cons]
    by_cases hp : s.satPresent b = true
    · have hother : ∀ a ∈ l, (g b s).at a = s.at a := fun a ha => (hl b s).other a fun h => hb (h ▸ ha)
      have hchildren : l.filter (fun a => (g b s).satPresent a) = l.filter fun a => s.satPresent a :=
        List.filter_congr fun a ha => satPresent_of_at (hl b s).cfg (hother a ha)
      have hevents : (l.filter fun a => s.satPresent a).flatMap (fun a => evs a ((g b s).sat a))
          = (l.filter fun a => s.satPresent a).flatMap fun a => evs a (s.sat a) :=
        List.flatMap_congr fun a ha => by rw [sat_of_at (hother a (List.mem_of_mem_filter ha))]
      rw [if_pos hp, if_pos hp, ih _ hn, hchildren, hevents, List.flatMap_cons, emitAll_append]
      exact emitAll_queue_congr (by rw [emitAll_cfg, (hl b s).cfg]) (he b s hp) _
    · rw [if_neg hp, if_neg hp]
      exact ih s hn

end Walks

section Destruction

variable (s : State) (a : Nat)

/-- A satellite destroyed, its self-test ended first (R192, spec/45_selftest.md R236). -/
def Sat.destroyed (x : Sat) : Sat :=
  { x with
    present := false
    stPhase := .idle
    stCnt := if x.stPhase = .idle then x.stCnt else 0
    stImplicit := if x.stPhase = .idle then x.stImplicit else false }

/-- The events of a satellite's destruction. -/
def Sat.destroyEvents (a : Nat) (x : Sat) : List Event :=
  (if x.stPhase = .idle then [] else [.selftestResult a .notFound]) ++ [.satExists a false]

theorem abortSelftest_local : Local a s (s.abortSelftest a) :=
  .ite (.refl s a) ((modifySat_local s a _).trans (emit_local _ a _))

theorem destroySat_local : Local a s (s.destroySat a) :=
  ((abortSelftest_local s a).trans (emit_local _ a _)).trans (modifySat_local _ a _)

theorem abortSelftest_frame (x : List Sat) (q : List Word) (o : Bool) :
    { s.abortSelftest a with sats := x, evq := q, evOvf := o } = { s with sats := x, evq := q, evOvf := o } := by
  unfold State.abortSelftest
  split
  · rfl
  · simp

theorem destroySat_frame (x : List Sat) (q : List Word) (o : Bool) :
    { s.destroySat a with sats := x, evq := q, evOvf := o } = { s with sats := x, evq := q, evOvf := o } := by
  have habort := abortSelftest_frame s a x q o
  have hemit := congrArg (State.setSats · x) (emit_frame (s.abortSelftest a) (.satExists a false) q o)
  exact hemit.trans habort

theorem abortSelftest_sats_length : (s.abortSelftest a).sats.length = s.sats.length := by
  unfold State.abortSelftest
  split
  · rfl
  · simp

theorem destroySat_sats_length : (s.destroySat a).sats.length = s.sats.length := by
  rw [State.destroySat, modifySat_length, emit_sats, abortSelftest_sats_length]

theorem destroySat_sat (h : a < s.sats.length) : (s.destroySat a).sat a = (s.sat a).destroyed := by
  have hlt : a < ((s.abortSelftest a).emit (.satExists a false)).sats.length := by
    rwa [emit_sats, abortSelftest_sats_length]
  rw [State.destroySat, modifySat_sat hlt, sat_congr (emit_sats _ _), State.abortSelftest]
  by_cases hidle : (s.sat a).stPhase = .idle
  · rw [if_pos hidle, Sat.destroyed, if_pos hidle, if_pos hidle, ← hidle]
  · rw [if_neg hidle, sat_congr (emit_sats _ _), modifySat_sat h, Sat.destroyed, if_neg hidle, if_neg hidle]

theorem destroySat_queue : (s.destroySat a).queue = (s.emitAll ((s.sat a).destroyEvents a)).queue := by
  have hqueue : (s.destroySat a).queue = ((s.abortSelftest a).emit (.satExists a false)).queue := rfl
  rw [hqueue, Sat.destroyEvents, emitAll_append, State.abortSelftest]
  by_cases hidle : (s.sat a).stPhase = .idle
  · rw [if_pos hidle, if_pos hidle]
    rfl
  · rw [if_neg hidle, if_neg hidle]
    refine emit_queue_congr ?_ ?_ _
    · rw [emit_cfg, modifySat_cfg, emitAll_cfg]
    · exact emit_queue_congr (s := s) (t := s.modifySat a _) rfl rfl _

theorem destroyAll_frame (x : List Sat) (q : List Word) (o : Bool) :
    { s.forEachSat (fun a t => t.destroySat a) with sats := x, evq := q, evOvf := o }
      = { s with sats := x, evq := q, evOvf := o } :=
  forEachSat_keeps s (fun t => { t with sats := x, evq := q, evOvf := o }) fun a t => destroySat_frame t a x q o

end Destruction

section DiscoveryStart

variable (s : State)

/-- A slot with the probe frame requested (R192, R193). -/
def Slot.probing (sl : Slot) : Slot := sl.clearForDiscovery.requestSrv true

theorem probing_congr {sl sl' : Slot} (h : sl.txBytes = sl'.txBytes) : sl.probing = sl'.probing :=
  congrArg (fun b => ({ Slot.reset with txBytes := b } : Slot).probing) h

/-- The Link blocked for discovery, the request taken. -/
def State.discoveryBlocked (s : State) : State := (s.setDisc { s.disc with pending := false }).opBlock .link opInit

/-- Step 2 on the slots that step 1 has cleared. -/
theorem probe_eq (u : State) :
    (u.setSlots (u.slots.map Slot.clearForDiscovery)).discoveryStep2 =
      { u with
        link := { u.link with noOfSats := BitVec.ofNat 8 (u.cfg.maxSats + 1) }
        slots := u.slots.map Slot.probing
        disc := { u.disc with cnt := BitVec.ofNat 16 (2 * u.cfg.settleCycles), state := .probe } } := by
  have hslots : (u.slots.map Slot.clearForDiscovery).map (Slot.requestSrv true) = u.slots.map Slot.probing :=
    List.map_map
  rw [← hslots]
  rfl

theorem discoveryStart_of_not_pending (h : s.disc.pending = false) : s.discoveryStart = s := by
  rw [State.discoveryStart, h]
  rfl

theorem discoveryStart_of_pending (h : s.disc.pending = true) :
    s.discoveryStart =
      { s.discoveryBlocked.forEachSat (fun a t => t.destroySat a) with
        link := { s.discoveryBlocked.link with noOfSats := BitVec.ofNat 8 (s.cfg.maxSats + 1) }
        slots := s.discoveryBlocked.slots.map Slot.probing
        disc :=
          { state := .probe
            cnt := BitVec.ofNat 16 (2 * s.cfg.settleCycles)
            result := s.disc.result
            pending := false } } := by
  let u := s.discoveryBlocked.forEachSat fun a t => t.destroySat a
  have hframe := destroyAll_frame s.discoveryBlocked s.sats s.evq s.evOvf
  have hlink : u.link = s.discoveryBlocked.link := (congrArg State.link hframe :)
  have hslots : u.slots = s.discoveryBlocked.slots := (congrArg State.slots hframe :)
  have hdisc : u.disc = { s.disc with pending := false } :=
    (congrArg State.disc hframe :).trans (opBlock_disc (s.setDisc { s.disc with pending := false }) .link opInit)
  have hcfg : u.cfg = s.cfg :=
    (congrArg State.cfg hframe :).trans (opBlock_cfg (s.setDisc { s.disc with pending := false }) .link opInit)
  have hstart : s.discoveryStart = (u.setSlots (u.slots.map Slot.clearForDiscovery)).discoveryStep2 := if_pos h
  rw [hstart, probe_eq, hlink, hslots, hdisc, ← hcfg]

variable {s} (h : s.disc.pending = true)
include h

theorem discoveryStart_frame :
    { s.discoveryStart with
      link := s.link, slots := s.slots, sats := s.sats, disc := s.disc, evq := s.evq, evOvf := s.evOvf } = s := by
  have hdestroy := destroyAll_frame s.discoveryBlocked s.sats s.evq s.evOvf
  have hblock := opBlock_link_frame (s.setDisc { s.disc with pending := false }) (flag := opInit) rfl s.link s.sats
    s.slots s.evq s.evOvf
  rw [discoveryStart_of_pending s h]
  exact (congrArg (fun t : State => ((t.setLink s.link).setSlots s.slots).setDisc s.disc) hdestroy).trans
    (congrArg (State.setDisc · s.disc) hblock :)

theorem discoveryStart_cfg : s.discoveryStart.cfg = s.cfg := (congrArg State.cfg (discoveryStart_frame h) :)

theorem discoveryStart_disc :
    s.discoveryStart.disc = ⟨.probe, BitVec.ofNat 16 (2 * s.cfg.settleCycles), s.disc.result, false⟩ := by
  rw [discoveryStart_of_pending s h]

theorem discoveryStart_link :
    s.discoveryStart.link =
      { s.link with op := s.link.op ||| opInit, noOfSats := BitVec.ofNat 8 (s.cfg.maxSats + 1) } := by
  rw [discoveryStart_of_pending s h, State.discoveryBlocked, opBlock_link_link]
  rfl

theorem discoveryStart_activeSlots (hshape : s.Shape) : s.discoveryStart.activeSlots = s.cfg.maxSats + 1 := by
  have hmax := (registerRanges hshape.legal).maxSats
  rw [State.activeSlots, discoveryStart_link h, BitVec.toNat_ofNat]
  omega

/-- Every slot is the probe's, with the bytes it had on the wire. -/
theorem discoveryStart_slots : s.discoveryStart.slots = s.slots.map Slot.probing := by
  have hchange : OpChange (s.setDisc { s.disc with pending := false }) s.discoveryBlocked :=
    (OpChange.refl _).opBlock .link opInit
  have hlen : s.discoveryBlocked.slots.length = s.slots.length := hchange.slotsLength
  rw [discoveryStart_of_pending s h]
  refine List.ext_getElem (by simpa using hlen) fun i hi hi' => ?_
  rw [List.getElem_map, List.getElem_map]
  refine probing_congr ?_
  have hslot : (s.discoveryBlocked.slot i).txBytes = (s.slot i).txBytes := (congrArg Slot.txBytes (hchange.slot i) :)
  rw [List.length_map] at hi hi'
  rwa [State.slot, State.slot, List.getElem?_eq_getElem hi, List.getElem?_eq_getElem hi'] at hslot

/-- Every satellite is destroyed; the cascade of INIT has reached those that existed. -/
theorem discoveryStart_sat (hshape : s.Shape) (a : Nat) :
    s.discoveryStart.sat a =
      if s.satPresent a = true then
        { (s.sat a).destroyed with
          op := if s.link.op = 0 then (s.sat a).op ||| opControlBlocked else (s.sat a).op }
      else s.sat a := by
  let u := s.setDisc { s.disc with pending := false }
  obtain ⟨h1, h2, h3, h4, h5, h6, h7⟩ := hshape
  have hblocked := opBlock_link_sat u opInit ⟨h1, h2, h3, h4, h5, h6, h7⟩ a
  have hsat : s.discoveryStart.sat a = (s.discoveryBlocked.forEachSat fun a t => t.destroySat a).sat a := by
    rw [discoveryStart_of_pending s h]
    rfl
  have hpresent : s.discoveryBlocked.satPresent a = s.satPresent a :=
    ((OpChange.refl u).opBlock .link opInit).satPresent a
  rw [hsat, forEachSat_sat s.discoveryBlocked (fun a t => destroySat_local t a)
    (fun a t => destroySat_sats_length t a) (fun a t => destroySat_sat t a), hpresent]
  by_cases hp : s.satPresent a = true
  · rw [if_pos hp, if_pos hp]
    by_cases hop : s.link.op = 0
    · rw [if_pos hop]
      exact congrArg Sat.destroyed (hblocked.trans (if_pos ⟨hop, hp⟩))
    · rw [if_neg hop]
      have hsame : s.discoveryBlocked.sat a = s.sat a := hblocked.trans (if_neg (not_and_of_not_left _ hop))
      rw [hsame]
      rfl
  · rw [if_neg hp, if_neg hp]
    exact hblocked.trans (if_neg (not_and_of_not_right _ hp))

theorem discoveryStart_satPresent (hshape : s.Shape) (a : Nat) : s.discoveryStart.satPresent a = false := by
  rw [satPresent_eq_false_iff, discoveryStart_cfg h, discoveryStart_sat h hshape]
  by_cases hp : s.satPresent a = true
  · rw [if_pos hp]
    exact .inr rfl
  · rw [if_neg hp]
    exact satPresent_eq_false_iff.mp (Bool.eq_false_iff.mpr hp)

theorem discoveryStart_sats_length : s.discoveryStart.sats.length = s.sats.length := by
  have hblocked := ((OpChange.refl (s.setDisc { s.disc with pending := false })).opBlock .link opInit).satsLength
  rw [discoveryStart_of_pending s h]
  exact (forEachSat_sats_length s.discoveryBlocked fun a t => destroySat_sats_length t a).trans hblocked

/-- R192's events: those of INIT, then those of each satellite's end. -/
theorem discoveryStart_queue :
    s.discoveryStart.queue =
      (s.emitAll ((if s.link.op = 0 then
            s.children.map fun a => .opState (.sat a) ((s.sat a).op ||| opControlBlocked) else [])
          ++ [.opState .link (s.link.op ||| opInit)]
          ++ s.children.flatMap fun a => (s.sat a).destroyEvents a)).queue := by
  let u := s.setDisc { s.disc with pending := false }
  have hqueue : s.discoveryStart.queue = (s.discoveryBlocked.forEachSat fun a t => t.destroySat a).queue := by
    rw [discoveryStart_of_pending s h]
    rfl
  have hchange : OpChange u s.discoveryBlocked := (OpChange.refl u).opBlock .link opInit
  have hchildren : s.discoveryBlocked.children = s.children := by
    unfold State.children State.addresses
    rw [hchange.cfg]
    exact List.filter_congr fun a _ => hchange.satPresent a
  have hphase (a : Nat) : (s.discoveryBlocked.sat a).stPhase = (s.sat a).stPhase := hchange.stPhase a
  have hevents (a : Nat) : (s.discoveryBlocked.sat a).destroyEvents a = (s.sat a).destroyEvents a := by
    rw [Sat.destroyEvents, Sat.destroyEvents, hphase]
  rw [hqueue, emitAll_append,
    forEachSat_queues s.discoveryBlocked (evs := fun a x => x.destroyEvents a) (fun a t => destroySat_local t a)
      (fun a t _ => destroySat_queue t a), hchildren]
  simp only [hevents]
  refine emitAll_queue_congr (hchange.cfg.trans (emitAll_cfg s _).symm) ?_ _
  exact (opBlock_link_queue u opInit).trans (emitAll_queue_congr (s := s) (t := u) rfl rfl _)

end DiscoveryStart

end Sys2Proof.Machine

/-! # Taking an input keeps every invariant -/

namespace Sys2Proof.Machine

section InputTaken

variable {s : State}

theorem inputTaken_setEnv (s : State) : s.inputTaken = s.setEnv s.inputTaken.env := by
  unfold State.inputTaken
  split <;> rfl

/-- The environment's choices are no part of an invariant but for the last answer of the CLOCK agent. -/
theorem setEnv_sound {e : Env} (hclock : e.clock = s.env.clock) (h : s.Sound) : (s.setEnv e).Sound where
  shape := { h.shape with }
  queue := { h.queue with }
  thresholds := { h.thresholds with }
  cascaded := { h.cascaded with }
  adm := { h.adm with }
  discovery := { h.discovery with }
  modes := { h.modes with }
  selftests := { h.selftests with }
  times := by
    obtain ⟨hwindow, hbudget, hperiod, hstarted, hreest⟩ := h.times
    rw [← hclock] at hbudget hperiod hstarted hreest
    exact ⟨hwindow, hbudget, hperiod, hstarted, hreest⟩
  cycle := { h.cycle with }
  requests := h.requests
  wire := { h.wire with }

theorem inputTaken_sound (h : s.Sound) : s.inputTaken.Sound := by
  rw [inputTaken_setEnv]
  exact setEnv_sound (inputTaken_clock s) h

end InputTaken

end Sys2Proof.Machine

/-! # ENCODE (spec/42_scan_engine.md R151 to R153, R155) -/

namespace Sys2Proof.Machine

section TestModes

variable {m : TestMode} {n : Nat}

theorem TestMode.countdown_eq_active : m.countdown = .active ↔ m = .active := by
  cases m with
  | deactivating c =>
    rw [TestMode.countdown]
    split <;> simp
  | _ => rfl

theorem TestMode.isActive_countdown : m.countdown.isActive = m.isActive := by
  rw [TestMode.isActive, TestMode.isActive, decide_eq_decide]
  exact TestMode.countdown_eq_active

theorem TestMode.isActive_eq {req : Bool} (h : m = .active ↔ req = true) : m.isActive = req := by
  rw [TestMode.isActive, Bool.eq_iff_iff, decide_eq_true_eq, h]

theorem TestMode.countdown_inRange (h : m.inRange n) : m.countdown.inRange n := by
  cases m with
  | deactivating c =>
    obtain ⟨-, hle⟩ : 1 ≤ c.toNat ∧ c.toNat ≤ n := h
    rw [TestMode.countdown]
    split
    · rename_i hlt
      have hsub : (c - 1).toNat = c.toNat - 1 := by
        rw [BitVec.toNat_sub]
        have hc := c.isLt
        have hone : (1 : BitVec 8).toNat = 1 := rfl
        omega
      exact ⟨by omega, by omega⟩
    · trivial
  | _ => trivial

theorem TestMode.resolve_inRange (req : Bool) (hn : 1 ≤ n ∧ n ≤ 255) (h : m.inRange n) : (m.resolve n req).inRange n := by
  cases req with
  | true => trivial
  | false =>
    cases m with
    | active =>
      have hcount : (BitVec.ofNat 8 n).toNat = n := by
        rw [BitVec.toNat_ofNat]
        omega
      exact ⟨hcount.symm ▸ hn.1, hcount.le⟩
    | _ => exact h

/-- The step of a mode in one cycle (R151, R153). -/
def TestMode.afterCycle (nDeact : Nat) (req : Bool) (m : TestMode) : TestMode :=
  if req then .active
  else
    match m with
    | .active => .deactivating (BitVec.ofNat 8 nDeact)
    | .deactivating c => if c = 1 then .inactive else .deactivating (c - 1)
    | .inactive => .inactive

theorem TestMode.countdown_of_deactivating {c : BitVec 8} (h : 1 ≤ c.toNat) :
    (TestMode.deactivating c).countdown = if c = 1 then .inactive else .deactivating (c - 1) := by
  have hone : c = 1 ↔ ¬ 1 < c.toNat := by
    constructor
    · rintro rfl
      decide
    · intro hle
      exact BitVec.eq_of_toNat_eq (show c.toNat = 1 by omega)
  rw [TestMode.countdown]
  by_cases hc : c = 1
  · rw [if_pos hc, if_neg (hone.mp hc)]
  · rw [if_neg hc, if_pos (not_not.mp (mt hone.mpr hc))]

/-- A mode resolved after the countdown. -/
theorem TestMode.resolve_countdown (req : Bool) (h : m.inRange n) :
    m.countdown.resolve n req = m.afterCycle n req := by
  cases req with
  | true => rfl
  | false =>
    cases m with
    | deactivating c =>
      rw [TestMode.countdown_of_deactivating (And.left h)]
      show _ = if c = 1 then TestMode.inactive else .deactivating (c - 1)
      split <;> rfl
    | _ => rfl

/-- A mode that is not resolved, because it is already as its request asks. -/
theorem TestMode.countdown_of_resolved {req : Bool} (h : m.inRange n) (hreq : m = .active ↔ req = true) :
    m.countdown = m.afterCycle n req := by
  cases req with
  | true =>
    rw [hreq.mpr rfl]
    rfl
  | false =>
    cases m with
    | active => exact absurd (hreq.mp rfl) Bool.false_ne_true
    | deactivating c => exact TestMode.countdown_of_deactivating (And.left h)
    | inactive => rfl

end TestModes

section SlotEncoding

open Sys2Proof.Config (Params)

variable {p : Params} {i : Nat} {working : Bool} {sl : Slot}

/-- A slot stands on the wire as its fields, its satellite and its requests ask. -/
structure Slot.Current (p : Params) (i : Nat) (working : Bool) (sl : Slot) : Prop where
  encoded : sl.txBytes = encodeFrame p (txFields i sl working) sl.tm.srv.isActive
  resolved : ∀ k, sl.tm.get k = .active ↔ sl.txReq.get k = true

theorem wireCurrent_iff {s : State} :
    s.WireCurrent ↔
      ∀ (i : Nat) (sl : Slot), s.slots[i]? = some sl → sl.txDirty = false → sl.Current s.cfg i (s.satWorking i) := by
  refine ⟨fun h i sl hsl hclean => ⟨h.encoded i sl hsl hclean, h.resolved sl (List.mem_of_getElem? hsl) hclean⟩,
    fun h => ⟨fun i sl hsl hclean => (h i sl hsl hclean).encoded, fun sl hmem hclean => ?_⟩⟩
  obtain ⟨i, hi, hsl⟩ := List.mem_iff_getElem.mp hmem
  exact (h i sl (List.getElem?_eq_some_iff.mpr ⟨hi, hsl⟩) hclean).resolved

theorem slot_of_le {s : State} {i : Nat} (h : s.slots.length ≤ i) : s.slot i = Slot.reset := by
  rw [State.slot, List.getElem?_eq_none h]
  rfl

theorem slots_getElem? {s : State} {i : Nat} (h : i < s.slots.length) : s.slots[i]? = some (s.slot i) := by
  rw [State.slot, List.getElem?_eq_getElem h]
  rfl

theorem current_of_clean {s : State} (h : s.WireCurrent) {i : Nat} (hclean : (s.slot i).txDirty = false) :
    (s.slot i).Current s.cfg i (s.satWorking i) := by
  by_cases hi : i < s.slots.length
  · exact wireCurrent_iff.mp h i _ (slots_getElem? hi) hclean
  · rw [slot_of_le (Nat.not_lt.mp hi)] at hclean
    cases hclean

theorem inRange_of_modesSound {s : State} (h : s.ModesSound) (i : Nat) (k : TestKind) :
    ((s.slot i).tm.get k).inRange s.cfg.nDeact := by
  by_cases hi : i < s.slots.length
  · exact h.counts _ (List.mem_of_getElem? (slots_getElem? hi)) k
  · rw [slot_of_le (Nat.not_lt.mp hi)]
    cases k <;> trivial

/-- What a current slot's frame holds (R155). -/
theorem Slot.Current.frame (hp : p.legal = true) (h : sl.Current p i working) :
    let f := unpack p.frameLayout sl.txBytes
    f.actuatorValue = sl.txActVal ∧ f.actuatorMode = sl.txActMode ∧ f.cmdEnable = (sl.txEnableReq && working)
      ∧ f.cmdWatchdogErrorTest = sl.txReq.wd ∧ f.cmdInvertCrc = sl.txReq.cli ∧ f.startMark = decide (i = 0)
      ∧ f.sensorValue = 0 ∧ f.fbReserved = 0 ∧ f.fbWatchdogError = false ∧ f.fbRemoteCrcError = false := by
  rw [h.encoded, unpack_encodeFrame _ (layoutLegal_of_legal hp)]
  exact ⟨rfl, rfl, rfl, TestMode.isActive_eq (h.resolved .wd), TestMode.isActive_eq (h.resolved .cli), rfl, rfl, rfl,
    rfl, rfl⟩

theorem Slot.Current.crcOk (h : sl.Current p i working) : crcOk p sl.txBytes = !sl.txReq.srv := by
  have hsrv : sl.tm.srv.isActive = sl.txReq.srv := TestMode.isActive_eq (h.resolved .srv)
  rw [h.encoded, crcOk_encodeFrame, hsrv]

/-- What ENCODE makes of an active slot (R151, R152). -/
def Slot.afterEncode (p : Params) (i : Nat) (working : Bool) (sl : Slot) : Slot :=
  let sl1 := { sl with tm := sl.tm.map TestMode.countdown }
  if sl.txDirty then sl1.encodeTx p i working else sl1

theorem afterEncode_frame :
    { sl.afterEncode p i working with tm := sl.tm, txBytes := sl.txBytes, txDirty := sl.txDirty } = sl := by
  unfold Slot.afterEncode
  split <;> rfl

theorem afterEncode_clean : (sl.afterEncode p i working).txDirty = false := by
  unfold Slot.afterEncode
  split
  · rfl
  · rename_i hclean
    exact Bool.not_eq_true _ ▸ hclean

/-- The countdown ends no active mode, so a clean slot stays current; a dirty one is made current. -/
theorem afterEncode_current (h : sl.txDirty = false → sl.Current p i working) :
    (sl.afterEncode p i working).Current p i working := by
  unfold Slot.afterEncode
  split
  · refine ⟨rfl, fun k => ?_⟩
    cases k <;> exact TestMode.resolve_active _ _ _
  · rename_i hclean
    obtain ⟨hencoded, hresolved⟩ := h (Bool.not_eq_true _ ▸ hclean)
    refine ⟨hencoded.trans ?_, fun k => ?_⟩
    · simp only [txFields, PerTest.map, TestMode.isActive_countdown]
    · rw [PerTest.get_map, TestMode.countdown_eq_active]
      exact hresolved k

theorem afterEncode_tm (h : sl.txDirty = false → sl.Current p i working) (k : TestKind)
    (hrange : (sl.tm.get k).inRange p.nDeact) :
    (sl.afterEncode p i working).tm.get k = (sl.tm.get k).afterCycle p.nDeact (sl.txReq.get k) := by
  unfold Slot.afterEncode
  split
  · cases k <;> exact TestMode.resolve_countdown _ hrange
  · rename_i hclean
    rw [PerTest.get_map]
    exact TestMode.countdown_of_resolved hrange ((h (Bool.not_eq_true _ ▸ hclean)).resolved k)

theorem afterEncode_txBytes (h : sl.txDirty = false) : (sl.afterEncode p i working).txBytes = sl.txBytes := by
  rw [Slot.afterEncode, h]
  rfl

theorem afterEncode_inRange (hp : p.legal = true) (k : TestKind) (h : (sl.tm.get k).inRange p.nDeact) :
    ((sl.afterEncode p i working).tm.get k).inRange p.nDeact := by
  have hcountdown := TestMode.countdown_inRange h
  unfold Slot.afterEncode
  split
  · cases k <;> exact TestMode.resolve_inRange _ (registerRanges hp).nDeact hcountdown
  · rwa [PerTest.get_map]

end SlotEncoding

section Encode

variable (s : State)

theorem encodeSlots_getElem? (i : Nat) :
    s.countdownModes.encodeSlots.slots[i]? =
      s.slots[i]?.map fun sl => if i < s.activeSlots then sl.afterEncode s.cfg i (s.satWorking i) else sl := by
  have hcountdown : s.countdownModes.slots[i]? =
      s.slots[i]?.map fun sl => if i < s.activeSlots then { sl with tm := sl.tm.map TestMode.countdown } else sl :=
    List.getElem?_mapIdx
  have hencode : s.countdownModes.encodeSlots.slots[i]? = s.countdownModes.slots[i]?.map fun sl =>
      if i < s.activeSlots ∧ sl.txDirty then sl.encodeTx s.cfg i (s.satWorking i) else sl := List.getElem?_mapIdx
  rw [hencode, hcountdown, Option.map_map]
  refine Option.map_congr fun sl _ => ?_
  by_cases hi : i < s.activeSlots
  · simp only [Function.comp_apply, hi, true_and, if_true, Slot.afterEncode]
  · simp only [Function.comp_apply, hi, false_and, if_false]

theorem encodeSlots_slot (i : Nat) (h : i < s.slots.length) :
    s.countdownModes.encodeSlots.slot i =
      if i < s.activeSlots then (s.slot i).afterEncode s.cfg i (s.satWorking i) else s.slot i := by
  rw [State.slot, encodeSlots_getElem?, State.slot, List.getElem?_eq_getElem h]
  rfl

theorem encodeSlots_slots_length : s.countdownModes.encodeSlots.slots.length = s.slots.length := by
  simp [State.encodeSlots, State.countdownModes, State.setSlots]

variable {s}

/-- Before its own part ENCODE starts discovery where it is asked for; either way every clean slot is current. -/
theorem discoveryStart_wire (h : s.Sound) (i : Nat) (sl : Slot) (hsl : s.discoveryStart.slots[i]? = some sl)
    (hclean : sl.txDirty = false) : sl.Current s.discoveryStart.cfg i (s.discoveryStart.satWorking i) := by
  cases hpending : s.disc.pending with
  | false =>
    rw [discoveryStart_of_not_pending s hpending] at hsl ⊢
    exact wireCurrent_iff.mp h.wire i sl hsl hclean
  | true =>
    rw [discoveryStart_slots hpending, List.getElem?_map, Option.map_eq_some_iff] at hsl
    obtain ⟨sl', -, rfl⟩ := hsl
    cases hclean

theorem discoveryStart_shape (h : s.Shape) : s.discoveryStart.Shape := by
  cases hpending : s.disc.pending with
  | false => rwa [discoveryStart_of_not_pending s hpending]
  | true =>
    have hframe := discoveryStart_frame hpending
    have hcfg := discoveryStart_cfg hpending
    have hconf : s.discoveryStart.conf = s.conf := (congrArg State.conf hframe :)
    have hline : s.discoveryStart.line = s.line := (congrArg State.line hframe :)
    obtain ⟨h1, h2, h3, h4, h5, h6, h7⟩ := h
    refine ⟨?_, ?_, ?_, ?_, ?_, ?_, ?_⟩
    · rwa [hcfg]
    · rwa [discoveryStart_slots hpending, List.length_map, hcfg]
    · rwa [discoveryStart_sats_length hpending, hcfg]
    · rwa [hconf, hcfg]
    · rwa [hconf, hcfg]
    · rwa [hconf, hcfg]
    · rwa [hline, hcfg]

theorem activeSlots_le_slots (hshape : s.Shape) (h : s.DiscoverySound) : s.activeSlots ≤ s.slots.length := by
  rw [hshape.slots, Config.Params.nSlot]
  by_cases hidle : s.disc.state = .idle
  · exact (h.idle hidle).1.trans (Nat.le_succ _)
  · exact (h.running hidle).2.1.le

theorem discoveryStart_activeSlots_le (h : s.Sound) : s.discoveryStart.activeSlots ≤ s.discoveryStart.slots.length := by
  cases hpending : s.disc.pending with
  | false =>
    rw [discoveryStart_of_not_pending s hpending]
    exact activeSlots_le_slots h.shape h.discovery
  | true =>
    rw [discoveryStart_activeSlots hpending h.shape, discoveryStart_slots hpending, List.length_map, h.shape.slots,
      Config.Params.nSlot]

/-- An active slot after ENCODE. -/
theorem scanEncode_current (h : s.Sound) {i : Nat} (hi : i < s.scanEncode.activeSlots) :
    ∃ sl, s.scanEncode.slots[i]? = some sl ∧ sl.txDirty = false
      ∧ sl.Current s.scanEncode.cfg i (s.scanEncode.satWorking i) := by
  let v := s.discoveryStart
  have hactive : i < v.activeSlots := hi
  obtain ⟨sl, hsl⟩ : ∃ sl, v.slots[i]? = some sl :=
    ⟨_, List.getElem?_eq_getElem (hactive.trans_le (discoveryStart_activeSlots_le h))⟩
  refine ⟨sl.afterEncode v.cfg i (v.satWorking i), ?_, afterEncode_clean,
    afterEncode_current fun hclean => discoveryStart_wire h i sl hsl hclean⟩
  have hslots := encodeSlots_getElem? v i
  rw [hsl, Option.map_some, if_pos hactive] at hslots
  exact hslots

theorem scanEncode_of_not_pending (h : s.disc.pending = false) :
    s.scanEncode = s.countdownModes.encodeSlots.setPhase .txrx := by
  rw [State.scanEncode, discoveryStart_of_not_pending s h]

theorem step_encode (hinput : s.input = .scan) (hphase : s.scanPhase = .encode) :
    step s = .next s.inputTaken.scanEncode := by
  rw [step_scan hinput, State.scanStep, inputTaken_scanPhase, hphase]

end Encode

end Sys2Proof.Machine

section EncodeStatements

open Sys2Proof Sys2Proof.Machine

/-- Settles O36. -/
theorem encodeBringsTheWireUpToDate : Obligations.EncodeBringsTheWireUpToDate := by
  intro s hsound hinput hphase
  have hu := inputTaken_sound hsound
  refine ⟨_, step_encode hinput hphase, fun i hi => ?_, fun hpending => ?_⟩
  · obtain ⟨sl, hsl, hclean, hcurrent⟩ := scanEncode_current hu hi
    obtain ⟨hval, hmode, henable, hrest⟩ := hcurrent.frame (discoveryStart_shape hu.shape).legal
    refine ⟨sl, hsl, hclean, ⟨hval, hmode, henable.trans ?_, hrest⟩, hcurrent.crcOk, hcurrent.resolved⟩
    rw [State.satWorking, Bool.and_assoc]
  · have hframe := inputTaken_frame s s.env
    let u := s.inputTaken
    have hpending' : u.disc.pending = false := by rwa [inputTaken_disc]
    have hle : u.activeSlots ≤ u.slots.length := activeSlots_le_slots hu.shape hu.discovery
    have hactive : u.activeSlots = s.activeSlots := inputTaken_activeSlots s
    have hkeep (i : Nat) : u.slot i = s.slot i := inputTaken_slot s i
    have hcfg : u.cfg = s.cfg := inputTaken_cfg s
    have hlen : u.slots.length = s.slots.length := congrArg List.length (inputTaken_slots s)
    rw [scanEncode_of_not_pending hpending']
    have hslot (i : Nat) (hi : i < s.activeSlots) :
        u.countdownModes.encodeSlots.slot i = (s.slot i).afterEncode s.cfg i (u.satWorking i) := by
      rw [← hactive] at hi
      rw [encodeSlots_slot u i (hi.trans_le hle), if_pos hi, hkeep, hcfg]
    have hcurrent (i : Nat) (hclean : (s.slot i).txDirty = false) : (s.slot i).Current s.cfg i (u.satWorking i) := by
      rw [← hkeep] at hclean ⊢
      rw [← hcfg]
      exact current_of_clean hu.wire hclean
    refine ⟨hactive, fun i hi => ⟨?_, fun k => ?_⟩, fun i hi => ⟨?_, fun hclean => ?_⟩, fun i hi => ?_,
      (encodeSlots_slots_length u).trans hlen, rfl,
      (congrArg (fun t : State => (t.setSlots s.slots).setPhase s.scanPhase) hframe :)⟩
    · exact (congrArg Slot.txReq (hslot i hi)).trans (congrArg Slot.txReq afterEncode_frame :)
    · exact (congrArg (fun sl : Slot => sl.tm.get k) (hslot i hi)).trans
        (afterEncode_tm (hcurrent i) k (inRange_of_modesSound hsound.modes i k))
    · exact (congrArg (fun sl : Slot => { sl with
        tm := (s.slot i).tm, txBytes := (s.slot i).txBytes, txDirty := (s.slot i).txDirty }) (hslot i hi)).trans
        afterEncode_frame
    · exact (congrArg Slot.txBytes (hslot i hi)).trans (afterEncode_txBytes hclean)
    · have hout : u.countdownModes.encodeSlots.slot i = u.slot i := by
        by_cases hlt : i < u.slots.length
        · rw [encodeSlots_slot u i hlt, if_neg (hactive ▸ Nat.not_lt.mpr hi)]
        · rw [slot_of_le (Nat.not_lt.mp hlt), slot_of_le (encodeSlots_slots_length u ▸ Nat.not_lt.mp hlt)]
      exact hout.trans (hkeep i)

/-- Settles O37: where the Link is not WORKING, no satellite is, by the cascading invariant or because discovery has
just destroyed it. -/
theorem blockedLinkEnablesNothing : Obligations.BlockedLinkEnablesNothing := by
  intro s hsound hinput hphase hop
  have hu := inputTaken_sound hsound
  let u := s.inputTaken
  have hop' : u.link.op ≠ 0 := by rwa [inputTaken_link]
  have hblocked : u.discoveryStart.link.op ≠ 0 ∧ ∀ i, u.discoveryStart.satWorking i = false := by
    cases hpending : u.disc.pending with
    | false =>
      rw [discoveryStart_of_not_pending u hpending]
      refine ⟨hop', fun i => Bool.eq_false_iff.mpr fun hworking => ?_⟩
      obtain ⟨hpresent, hzero⟩ : u.satPresent i = true ∧ (u.sat i).op = 0 := by
        simpa [State.satWorking] using hworking
      have hcb := (hu.cascaded.blocked i hpresent).mpr hop'
      rw [hzero] at hcb
      exact absurd hcb (by decide)
    | true =>
      refine ⟨fun hzero => hop' ?_, fun i => ?_⟩
      · rw [discoveryStart_link hpending] at hzero
        exact (BitVec.or_eq_zero_iff.mp hzero).1
      · rw [State.satWorking, discoveryStart_satPresent hpending hu.shape, Bool.false_and]
  refine ⟨_, step_encode hinput hphase, hblocked.1, fun i hi => ?_⟩
  obtain ⟨sl, hsl, -, hcurrent⟩ := scanEncode_current hu hi
  obtain ⟨-, -, henable, -⟩ := hcurrent.frame (discoveryStart_shape hu.shape).legal
  have hworking : u.scanEncode.satWorking i = false := hblocked.2 i
  rw [getD_slot hsl]
  refine henable.trans ?_
  rw [hworking, Bool.and_false]

/-- Settles O49. -/
theorem discoveryProbesEverySlot : Obligations.DiscoveryProbesEverySlot := by
  intro s hshape hinput hphase hpending
  let u := s.setEnv s.inputTaken.env
  have hstep : step s = .next u.scanEncode := by rw [step_encode hinput hphase, inputTaken_setEnv]
  have hu : u.Shape := { hshape with }
  have hpending' : u.disc.pending = true := hpending
  have hranges := registerRanges hshape.legal
  have hcfg : u.discoveryStart.cfg = s.cfg := discoveryStart_cfg hpending'
  have hlink : u.discoveryStart.link = _ := discoveryStart_link hpending'
  have hdisc : u.discoveryStart.disc = _ := discoveryStart_disc hpending'
  have hactive : u.discoveryStart.activeSlots = s.cfg.maxSats + 1 := discoveryStart_activeSlots hpending' hu
  have hqueue := discoveryStart_queue hpending'
  have hemit (l : List Event) : (u.emitAll l).queue = (s.emitAll l).queue :=
    emitAll_queue_congr (s := s) (t := u) rfl rfl l
  have hlen : u.discoveryStart.slots.length = s.slots.length := by
    rw [discoveryStart_slots hpending', List.length_map]
    rfl
  have hframe := discoveryStart_frame hpending'
  refine ⟨_, hstep, ?pending, ?state, ?cnt, ?op, hactive, discoveryStart_satPresent hpending' hu, ?link, ?result, ?slots,
    discoveryStart_sats_length hpending', (congrArg State.env hframe :),
    (congrArg (fun t : State => (t.setPhase s.scanPhase).setEnv s.env) hframe :), ⟨?sats, ?queue⟩, fun i hi => ?slot⟩
  case pending => exact (congrArg DiscRegs.pending hdisc :)
  case state => exact (congrArg DiscRegs.state hdisc :)
  case cnt =>
    refine (congrArg (fun d : DiscRegs => d.cnt.toNat) hdisc :).trans ?_
    show (BitVec.ofNat 16 (2 * s.cfg.settleCycles)).toNat = _
    have hsettle := hranges.settleCycles
    rw [BitVec.toNat_ofNat]
    omega
  case op => exact (congrArg LinkRegs.op hlink :)
  case link =>
    exact (congrArg (fun l : LinkRegs => { l with op := s.link.op, noOfSats := s.link.noOfSats }) hlink :)
  case result => exact (congrArg DiscRegs.result hdisc :)
  case slots => exact (encodeSlots_slots_length u.discoveryStart).trans hlen
  case sats =>
    intro a
    refine (discoveryStart_sat hpending' hu a).trans ?_
    rfl
  case queue =>
    have hcascade : (if s.link.op = 0 then
          s.children.map fun a => Event.opState (.sat a) ((s.sat a).op ||| opControlBlocked) else [])
        = if s.link.op = 0 then
            s.children.map fun a => Event.opState (.sat a) (if s.link.op = 0 then (s.sat a).op ||| 0x04#5 else (s.sat a).op)
          else [] := by
      by_cases hop : s.link.op = 0
      · simp only [hop, if_true]
        rfl
      · rw [if_neg hop, if_neg hop]
    have hevents := queue_eq_iff.mp (hqueue.trans (hemit ((if s.link.op = 0 then
        s.children.map fun a => .opState (.sat a) ((s.sat a).op ||| opControlBlocked) else [])
      ++ [.opState .link (s.link.op ||| opInit)] ++ s.children.flatMap fun a => (s.sat a).destroyEvents a)))
    rwa [hcascade] at hevents
  case slot =>
    have hslot : i < s.slots.length := by
      rw [hshape.slots]
      exact hi
    have hprobe : u.discoveryStart.slots[i]? = some (s.slot i).probing := by
      rw [discoveryStart_slots hpending', List.getElem?_map]
      exact congrArg (Option.map Slot.probing) (slots_getElem? hslot)
    have hencoded := encodeSlots_getElem? u.discoveryStart i
    rw [hprobe, Option.map_some, if_pos (hactive ▸ hi)] at hencoded
    refine ⟨_, hencoded, rfl, rfl, rfl, rfl, rfl, rfl, rfl, rfl, ?_⟩
    exact (afterEncode_current fun hclean => Bool.noConfusion (show true = false from hclean)).crcOk

end EncodeStatements

/-! # SEQ while discovery runs (spec/43_discovery.md R194 to R199): the shared part and the probe

While discovery runs no self-test does, so SEQ is the discovery step and the re-establishment check. -/

namespace Sys2Proof.Machine

section ReestCheck

variable (s : State)

theorem reestCheck_frame (r : ReestRegs) (d : DiscRegs) :
    { s.reestCheck with reest := r, disc := d } = { s with reest := r, disc := d } := by
  unfold State.reestCheck
  split
  · simp only []
    split <;> rfl
  · rfl

/-- The timer after the check does not depend on what the check asks for. -/
theorem reestCheck_reest :
    s.reestCheck.reest =
      if s.reest.armed = true ∧ s.reest.deadline ≤ s.time.t5 then { s.reest with armed := false } else s.reest := by
  by_cases hdue : s.reest.armed = true ∧ s.reest.deadline ≤ s.time.t5
  · rw [if_pos hdue]
    by_cases hasks : s.asksForDiscovery
    · rw [reestCheck_of_due_asking hdue hasks]
    · rw [reestCheck_of_due_silent hdue hasks]
  · rw [if_neg hdue, reestCheck_of_not_due hdue]

theorem reestCheck_disc : s.reestCheck.disc = { s.disc with pending := s.reestCheck.disc.pending } := by
  unfold State.reestCheck
  split
  · simp only []
    split <;> rfl
  · rfl

theorem reestCheck_disc_of_running (h : s.disc.state ≠ .idle) : s.reestCheck.disc = s.disc := by
  by_cases hdue : s.reest.armed = true ∧ s.reest.deadline ≤ s.time.t5
  · rw [reestCheck_of_due_silent hdue fun hasks => h hasks.2.2.1]
  · rw [reestCheck_of_not_due hdue]

/-- The check reads the timer, t5, the Link and discovery's state and request. -/
theorem reestCheck_congr {s t : State} (hreest : t.reest = s.reest) (htime : t.time = s.time) (hlink : t.link = s.link)
    (hstate : t.disc.state = s.disc.state) (hpending : t.disc.pending = s.disc.pending) :
    t.reestCheck.reest = s.reestCheck.reest ∧ t.reestCheck.disc.pending = s.reestCheck.disc.pending := by
  have hasks : t.asksForDiscovery ↔ s.asksForDiscovery := by
    rw [State.asksForDiscovery, State.asksForDiscovery, hlink, hstate, hpending]
  refine ⟨by rw [reestCheck_reest, reestCheck_reest, hreest, htime], ?_⟩
  by_cases hdue : s.reest.armed = true ∧ s.reest.deadline ≤ s.time.t5
  · have hdue' : t.reest.armed = true ∧ t.reest.deadline ≤ t.time.t5 := by rwa [hreest, htime]
    by_cases h : s.asksForDiscovery
    · rw [reestCheck_of_due_asking hdue h, reestCheck_of_due_asking hdue' (hasks.mpr h)]
    · rw [reestCheck_of_due_silent hdue h, reestCheck_of_due_silent hdue' (mt hasks.mp h), hpending]
  · have hdue' : ¬ (t.reest.armed = true ∧ t.reest.deadline ≤ t.time.t5) := by rwa [hreest, htime]
    rw [reestCheck_of_not_due hdue, reestCheck_of_not_due hdue', hpending]

end ReestCheck

section QuietWalks

variable {s : State}

/-- Nothing is done where no self-test runs. -/
theorem selftestSteps_of_idle (h : ∀ a, (s.sat a).stPhase = .idle) : s.forEachSat (fun a t => t.selftestStep a) = s :=
  forEachSat_induct s (P := fun t => t = s)
    (fun a t ht _ => by
      rw [ht]
      exact selftestStep_of_idle s (h a)) rfl

/-- What holds of every satellite and of one after reset holds at every address. -/
theorem forall_sats {P : Sat → Prop} (h : ∀ x ∈ s.sats, P x) (hreset : P (Sat.reset 0 0)) (a : Nat) : P (s.sat a) := by
  by_cases ha : a < s.sats.length
  · rw [State.sat, List.getElem?_eq_getElem ha]
    exact h _ (List.getElem_mem ha)
  · rwa [State.sat, List.getElem?_eq_none (Nat.not_lt.mp ha)]

theorem sat_lt_of_running (h : s.SelftestsSound) {a : Nat} (hrunning : (s.sat a).stPhase ≠ .idle) :
    (s.sat a).present = true ∧ 1 ≤ (s.sat a).stCnt.toNat ∧ (s.sat a).stCnt.toNat ≤ s.cfg.selftestPhaseCycles :=
  forall_sats (P := fun x => x.stPhase ≠ .idle →
      x.present = true ∧ 1 ≤ x.stCnt.toNat ∧ x.stCnt.toNat ≤ s.cfg.selftestPhaseCycles)
    h.running (fun hne => absurd rfl hne) a hrunning

theorem sat_of_le {a : Nat} (h : s.sats.length ≤ a) : s.sat a = Sat.reset 0 0 := by
  rw [State.sat, List.getElem?_eq_none h]
  rfl

theorem selftest_present (hshape : s.Shape) (h : s.SelftestsSound) {a : Nat} (hrunning : (s.sat a).stPhase ≠ .idle) :
    s.satPresent a = true := by
  have ha : a < s.sats.length := by
    by_contra hle
    rw [sat_of_le (Nat.not_lt.mp hle)] at hrunning
    exact hrunning rfl
  rw [State.satPresent, (sat_lt_of_running h hrunning).1, Bool.and_true, decide_eq_true_eq, ← hshape.sats]
  exact ha

/-- Discovery and self-tests do not run together. -/
theorem selftests_idle_of_discovery (h : s.Sound) (hstate : s.disc.state ≠ .idle) (a : Nat) :
    (s.sat a).stPhase = .idle := by
  by_contra hrunning
  have hpresent := selftest_present h.shape h.selftests hrunning
  rw [(h.discovery.running hstate).2.2.1 a] at hpresent
  cases hpresent

end QuietWalks

section FailedLink

variable (s : State)

/-- The Link with FAIL set and INIT cleared: how a discovery that finds no usable bus ends (R195, R199). -/
def State.linkFailed (s : State) : State := (s.opBlock .link opFail).opDeBlock .link opInit

theorem failed_ne_zero : ∀ op : OpState, (op ||| opFail) &&& ~~~opInit ≠ 0 := by decide

theorem linkFailed_change : OpChange s s.linkFailed := ((OpChange.refl s).opBlock .link opFail).opDeBlock .link opInit

theorem blockChildren_of_blocked (h : s.link.op ≠ 0) : s.blockChildren = s := if_neg h

theorem linkFailed_link : s.linkFailed.link = { s.link with op := (s.link.op ||| opFail) &&& ~~~opInit } := by
  have hne := failed_ne_zero s.link.op
  rw [State.linkFailed, opDeBlock_link_link, opBlock_link_link]
  simp only [hne, and_false, if_false]

theorem linkFailed_eq :
    s.linkFailed =
      ((s.opBlock .link opFail).linkFreed opInit).emit (.opState .link ((s.link.op ||| opFail) &&& ~~~opInit)) := by
  have hne : ¬ (s.opBlock .link opFail).wakes opInit := by
    rw [State.wakes, opBlock_link_link]
    exact fun hw => failed_ne_zero s.link.op hw.2
  rw [State.linkFailed, opDeBlock_link_of_not_wakes _ _ hne, opBlock_link_link]

theorem linkFailed_timer : s.linkFailed.env = s.tick.env
    ∧ s.linkFailed.reest = ⟨true, s.tick.env.clock + s.cfg.tReestablishMs⟩ := by
  rw [State.linkFailed, opDeBlock_env, opDeBlock_reest]
  exact opBlock_link_armed s opFail (by decide)

variable {s} (h : s.link.op ≠ 0)
include h

theorem linkFailed_sats : s.linkFailed.sats = s.sats := by
  rw [linkFailed_eq, emit_sats]
  show (s.opBlock .link opFail).sats = _
  rw [opBlock_link_sats, blockChildren_of_blocked s h]

theorem linkFailed_slots : s.linkFailed.slots = s.slots := by
  rw [linkFailed_eq, emit_slots]
  show (s.opBlock .link opFail).slots = _
  rw [opBlock_link_slots, blockChildren_of_blocked s h]

theorem linkFailed_queue :
    s.linkFailed.queue =
      (s.emitAll [.opState .link (s.link.op ||| opFail),
        .opState .link ((s.link.op ||| opFail) &&& ~~~opInit)]).queue := by
  have hblock := opBlock_link_queue s opFail
  rw [if_neg h, List.nil_append] at hblock
  rw [linkFailed_eq]
  refine emit_queue_congr (s := s.emit (.opState .link (s.link.op ||| opFail))) ?_ ?_ _
  · exact ((OpChange.refl s).opBlock .link opFail).cfg.trans (emit_cfg s _).symm
  · exact hblock

end FailedLink

section Countdown

variable {s : State}

/-- R194: before the end of its window discovery only counts down. -/
theorem discoveryStep_of_more (hstate : s.disc.state ≠ .idle) (hcnt : s.disc.cnt ≠ 1) :
    s.discoveryStep = { s with disc := { s.disc with cnt := s.disc.cnt - 1 } } := by
  have hmore : ¬ s.disc.cnt - 1 = 0 := fun hzero => hcnt (sub_eq_zero.mp hzero)
  rw [State.discoveryStep]
  cases hd : s.disc.state with
  | idle => exact absurd hd hstate
  | probe => exact if_neg hmore
  | clear => exact if_neg hmore

/-- The state at the end of a settle window. -/
def State.windowEnded (s : State) : State := s.setDisc { s.disc with cnt := 0 }

theorem discoveryStep_of_probe (hstate : s.disc.state = .probe) (hcnt : s.disc.cnt = 1) :
    s.discoveryStep = s.windowEnded.probeEvaluate := by
  rw [State.discoveryStep, hstate, hcnt]
  rfl

theorem discoveryStep_of_clear (hstate : s.disc.state = .clear) (hcnt : s.disc.cnt = 1) :
    s.discoveryStep = s.windowEnded.discoveryFinish := by
  rw [State.discoveryStep, hstate, hcnt]
  rfl

/-! ## The probe's window ends (R195, R196) -/

theorem discoveryStep_of_accept (hstate : s.disc.state = .probe) (hcnt : s.disc.cnt = 1)
    (hsilent : (s.slot s.cfg.maxSats).status.remoteCrcError = false) :
    s.discoveryStep =
      { s with
        slots := s.slots.map (Slot.requestSrv false)
        disc :=
          { s.disc with
            state := .clear
            cnt := BitVec.ofNat 16 s.cfg.settleCycles
            result := BitVec.ofNat 8 s.probeCount } } := by
  rw [discoveryStep_of_probe hstate hcnt]
  exact if_neg (Bool.eq_false_iff.mp hsilent)

/-- The slots and the sequencer after the TooManySatellites abort, before the Link's flags change. -/
def State.probeAborted (s : State) : State :=
  { s with
    slots := s.slots.map Slot.abortProbe
    link := { s.link with noOfSats := 0 }
    disc := ⟨.idle, 0, 0, s.disc.pending⟩ }

theorem discoveryStep_of_abort (hstate : s.disc.state = .probe) (hcnt : s.disc.cnt = 1)
    (hanswer : (s.slot s.cfg.maxSats).status.remoteCrcError = true) :
    s.discoveryStep = s.probeAborted.linkFailed.emit (.discResult .tooManySatellites 0) := by
  rw [discoveryStep_of_probe hstate hcnt]
  exact if_pos hanswer

/-- The run of answering slots is counted. -/
theorem probeCount_eq {k : Nat} (hk : k < s.slots.length)
    (hanswer : ∀ i, i < k → (s.slot i).status.remoteCrcError = true)
    (hsilent : (s.slot k).status.remoteCrcError = false) : s.probeCount = k := by
  have hslot (i : Nat) (hi : i < s.slots.length) : s.slots[i] = s.slot i := by
    rw [State.slot, List.getElem?_eq_getElem hi]
    rfl
  refine (List.findIdx_eq hk).mpr ⟨?_, fun j hj => ?_⟩
  · rw [hslot k hk, hsilent]
    rfl
  · rw [hslot j (hj.trans hk), hanswer j hj]
    rfl

theorem slot_of_map {t : State} {f : Slot → Slot} (h : t.slots = s.slots.map f) {i : Nat} (hi : i < s.slots.length) :
    t.slot i = f (s.slot i) := by
  rw [State.slot, h, List.getElem?_map, slots_getElem? hi]
  rfl

/-- SEQ while discovery runs or has just ended, no self-test running. -/
theorem step_seq_of_idle {u : State} (hinput : s.input = .scan) (hphase : s.scanPhase = .seq)
    (hu : s.inputTaken.discoveryStep = u) (hidle : ∀ a, (u.sat a).stPhase = .idle) :
    step s = .next (u.reestCheck.setPhase .timing) := by
  rw [step_seq hinput hphase, State.scanSeq, hu, selftestSteps_of_idle hidle]

/-- A timer armed by a clock read after t5 is not due at once, since T_REESTABLISH_MS is at least 1 (R6). -/
theorem reestCheck_of_just_armed {t : State} (hlegal : s.cfg.legal = true)
    (hreest : t.reest = ⟨true, t.env.clock + s.cfg.tReestablishMs⟩) (htime : t.time.t5 ≤ t.env.clock) :
    t.reestCheck = t := by
  have hpos : 1 ≤ s.cfg.tReestablishMs := by
    simp only [Config.Params.legal, Config.Params.countsLegal, Bool.and_eq_true, decide_eq_true_eq] at hlegal
    omega
  refine reestCheck_of_not_due fun hdue => ?_
  rw [hreest] at hdue
  have hle : t.env.clock + s.cfg.tReestablishMs ≤ t.time.t5 := hdue.2
  omega

end Countdown

end Sys2Proof.Machine

section ProbeStatement

open Sys2Proof Sys2Proof.Machine

/-- Settles O50. -/
theorem probeFindsTheContiguousRun : Obligations.ProbeFindsTheContiguousRun := by
  refine ⟨fun s => discoveryStep_of_more, fun s hsound hinput hphase hstate hcnt => ?_⟩
  let u := s.setEnv s.inputTaken.env
  have hu : s.inputTaken = u := inputTaken_setEnv s
  have hrunning : s.disc.state ≠ .idle := fun hidle => DiscState.noConfusion (hidle.symm.trans hstate)
  have hidle := selftests_idle_of_discovery hsound hrunning
  obtain ⟨hinit, -, hnone, -⟩ := hsound.discovery.running hrunning
  have hnslot : s.slots.length = s.cfg.maxSats + 1 := hsound.shape.slots
  have hranges := registerRanges hsound.shape.legal
  have hrequests (i : Nat) (hi : i < s.cfg.maxSats + 1) : (s.slot i).txReq.set .srv false = ⟨false, false, false⟩ := by
    rw [hsound.requests i _ (slots_getElem? (hnslot ▸ hi)), State.expectedRequests, if_pos hstate]
    rfl
  refine ⟨fun k hk hanswer hsilent hlast => ?accept, fun hanswer => ?abort⟩
  case accept =>
    let v : State := { u with
      slots := s.slots.map (Slot.requestSrv false)
      disc := ⟨.clear, BitVec.ofNat 16 s.cfg.settleCycles, BitVec.ofNat 8 s.probeCount, s.disc.pending⟩ }
    have hv : s.inputTaken.discoveryStep = v := by
      rw [hu]
      exact discoveryStep_of_accept (s := u) hstate hcnt hlast
    have hdisc : v.reestCheck.disc = v.disc := reestCheck_disc_of_running v fun hc => DiscState.noConfusion hc
    have hframe := reestCheck_frame v s.reest s.disc
    have hslots : v.reestCheck.slots = s.slots.map (Slot.requestSrv false) := (congrArg State.slots hframe :)
    have hcount : s.probeCount = k := probeCount_eq (hnslot ▸ Nat.lt_succ_of_le hk) hanswer hsilent
    refine ⟨_, step_seq_of_idle hinput hphase hv hidle, ?_, ?_, ?_, (congrArg State.link hframe :),
      (congrArg State.evq hframe :), (congrArg State.evOvf hframe :), ?_, ?_, (congrArg State.env hframe :),
      fun i hi => ?_, ?_, ?_⟩
    · exact (congrArg DiscRegs.state hdisc :)
    · refine (congrArg (fun d : DiscRegs => d.result.toNat) hdisc :).trans ?_
      have hmax := hranges.maxSats
      show (BitVec.ofNat 8 s.probeCount).toNat = k
      rw [hcount, BitVec.toNat_ofNat]
      omega
    · refine (congrArg (fun d : DiscRegs => d.cnt.toNat) hdisc :).trans ?_
      have hsettle := hranges.settleCycles
      show (BitVec.ofNat 16 s.cfg.settleCycles).toNat = _
      rw [BitVec.toNat_ofNat]
      omega
    · exact (congrArg DiscRegs.pending hdisc :)
    · exact (reestCheck_reest v).trans (reestCheck_reest s).symm
    · have hslot : v.reestCheck.slot i = (s.slot i).requestSrv false := slot_of_map hslots (hnslot ▸ hi)
      refine ⟨?_, ?_, ?_⟩
      · exact (congrArg Slot.txReq hslot :).trans (hrequests i hi)
      · exact (congrArg Slot.txDirty hslot :)
      · exact (congrArg (fun sl : Slot =>
          { sl with txReq := (s.slot i).txReq, txDirty := (s.slot i).txDirty }) hslot :)
    · exact (congrArg List.length hslots).trans (List.length_map _)
    · exact (congrArg (fun t : State => ((t.setPhase s.scanPhase).setSlots s.slots).setEnv s.env) hframe :)
  case abort =>
    let w := u.probeAborted
    let v := w.linkFailed.emit (.discResult .tooManySatellites 0)
    have hv : s.inputTaken.discoveryStep = v := by
      rw [hu]
      exact discoveryStep_of_abort (s := u) hstate hcnt hanswer
    have hop : w.link.op ≠ 0 := by
      intro hzero
      have hbit : hasBit w.link.op opInit = true := hinit
      rw [hzero] at hbit
      exact absurd hbit (by decide)
    have hchange : OpChange w v := (linkFailed_change w).emit _
    have hlink : v.link = { w.link with op := (w.link.op ||| opFail) &&& ~~~opInit } :=
      (emit_link _ _).trans (linkFailed_link w)
    have hsats : v.sats = s.sats := (emit_sats _ _).trans (linkFailed_sats hop)
    have hslots : v.slots = s.slots.map Slot.abortProbe := (emit_slots _ _).trans (linkFailed_slots hop)
    have henv : v.env = w.tick.env := (emit_env _ _).trans (linkFailed_timer w).1
    have hreest : v.reest = ⟨true, v.env.clock + s.cfg.tReestablishMs⟩ := by
      rw [henv]
      exact (emit_reest _ _).trans (linkFailed_timer w).2
    have hqueue : v.queue = (s.emitAll [.opState .link (s.link.op ||| opFail),
        .opState .link ((s.link.op ||| opFail) &&& ~~~opInit), .discResult .tooManySatellites 0]).queue := by
      have hfailed := linkFailed_queue hop
      have hw := emitAll_queue_congr (s := s) (t := w) rfl rfl [.opState .link (s.link.op ||| opFail),
        .opState .link ((s.link.op ||| opFail) &&& ~~~opInit)]
      exact emit_queue_congr ((linkFailed_change w).cfg.trans (emitAll_cfg s _).symm) (hfailed.trans hw) _
    have hclock : s.env.clock ≤ v.env.clock := by
      rw [henv, ← inputTaken_clock s]
      exact tick_clock_le w
    have htime : v.time = s.time := hchange.time
    have hquiet : v.reestCheck = v := reestCheck_of_just_armed hsound.shape.legal hreest
      (by rw [htime]; exact hsound.times.budget.trans hclock)
    have hidle' (a : Nat) : (v.sat a).stPhase = .idle := (hchange.stPhase a).trans (hidle a)
    have hstep := step_seq_of_idle hinput hphase hv hidle'
    rw [hquiet] at hstep
    have hframe : { v with
        scanPhase := s.scanPhase, link := s.link, slots := s.slots, disc := s.disc, reest := s.reest
        evq := s.evq, evOvf := s.evOvf, env := s.env } = { s with sats := v.sats } :=
      congrArg (fun t : State => { t with
        scanPhase := s.scanPhase, link := s.link, slots := s.slots, sats := v.sats, disc := s.disc, reest := s.reest
        evq := s.evq, evOvf := s.evOvf, env := s.env }) hchange.frame
    have hdisc : v.disc = w.disc := hchange.disc
    refine ⟨_, hstep, (congrArg DiscRegs.state hdisc :), (congrArg DiscRegs.result hdisc :), ?_,
      (congrArg DiscRegs.cnt hdisc :), (congrArg DiscRegs.pending hdisc :), (congrArg LinkRegs.op hlink :), ?_, ?_,
      hreest, fun i hi => (slot_of_map hslots (hnslot ▸ hi)).trans ?_, fun a => (hchange.satPresent a).trans (hnone a),
      (congrArg List.length hslots).trans (List.length_map _), hframe.trans (by rw [hsats]), queue_eq_iff.mp hqueue⟩
    · exact (congrArg (fun l : LinkRegs => l.noOfSats.toNat) hlink :)
    · exact (congrArg (fun l : LinkRegs => { l with op := s.link.op, noOfSats := s.link.noOfSats }) hlink :)
    · rw [hu]
      exact henv.trans (tick_env_congr (s := u) (t := w) rfl)
    · exact congrArg (fun r => { (s.slot i).abortProbe with txReq := r }) (hrequests i hi)

end ProbeStatement

/-! # The end of discovery (spec/43_discovery.md R197 to R199) -/

namespace Sys2Proof.Machine

section Creation

variable (s : State)

/-- What a walk over distinct addresses, made at each of them, leaves at `a`. `P` is any property that every visit
keeps. -/
theorem foldl_at {P : State → Prop} {g : Nat → State → State} (hl : ∀ a t, Local a t (g a t))
    (hP : ∀ a t, P t → P (g a t)) (l : List Nat) (hn : l.Nodup) (h0 : P s) (a : Nat) :
    if a ∈ l then ∃ u, P u ∧ u.at a = s.at a ∧ (l.foldl (fun t a => g a t) s).at a = (g a u).at a
    else (l.foldl (fun t a => g a t) s).at a = s.at a := by
  induction l generalizing s with
  | nil => rfl
  | cons b l ih =>
    obtain ⟨hb, hn⟩ := List.nodup_cons.mp hn
    have hrest := ih (g b s) hn (hP b s h0)
    rw [List.foldl_cons]
    by_cases hab : a = b
    · subst hab
      rw [if_neg hb] at hrest
      rw [if_pos (List.mem_cons_self ..)]
      exact ⟨s, h0, rfl, hrest⟩
    · have hother : (g b s).at a = s.at a := (hl b s).other a hab
      by_cases hmem : a ∈ l
      · rw [if_pos hmem] at hrest
        rw [if_pos (List.mem_cons_of_mem _ hmem)]
        obtain ⟨u, hu, hat, hres⟩ := hrest
        exact ⟨u, hu, hat.trans hother, hres⟩
      · rw [if_neg hmem] at hrest
        rw [if_neg fun hc => (List.mem_cons.mp hc).elim hab hmem]
        exact hrest.trans hother

variable (a : Nat)

/-- A satellite as discovery creates it, with the given op-state (R198). -/
def Sat.created (op : OpState) (x : Sat) : Sat :=
  { x with
    present := true, adm := .disable, op := op, cum := SatCounters.zero, sec := SatCounters.zero
    test := TestCounters.zero, stPhase := .idle, stCnt := 0, stImplicit := false }

theorem createSat_local : Local a s (s.createSat a) :=
  ((setSatOp_local s a _).trans (modifySat_local _ a _)).trans (emit_local _ a _)

theorem createSat_frame (x : List Sat) (y : List Slot) (q : List Word) (o : Bool) :
    { s.createSat a with sats := x, slots := y, evq := q, evOvf := o }
      = { s with sats := x, slots := y, evq := q, evOvf := o } := by
  simp [State.createSat]

theorem createSat_link : (s.createSat a).link = s.link := by simp [State.createSat]

theorem createSat_sats_length : (s.createSat a).sats.length = s.sats.length := by simp [State.createSat]

theorem createSat_slots_length : (s.createSat a).slots.length = s.slots.length := by simp [State.createSat]

theorem createSat_sat (h : a < s.sats.length) : (s.createSat a).sat a = (s.sat a).created s.newSatOp := by
  have hlt : a < (s.setSatOp a s.newSatOp).sats.length := by simpa using h
  rw [State.createSat, sat_congr (emit_sats _ _), modifySat_sat hlt, setSatOp_sat s a _ h]
  rfl

theorem createSat_slot (h : a < s.slots.length) :
    (s.createSat a).slot a =
      { s.slot a with txDirty := (s.slot a).txDirty || decide (s.newSatOp ≠ (s.sat a).op) } := by
  rw [State.createSat, slot_congr (emit_slots _ _), slot_congr (modifySat_slots _ a _), setSatOp_slot s a _ h]

theorem createSat_queue : (s.createSat a).queue = (s.emit (.satExists a true)).queue := by
  refine emit_queue_congr ?_ ?_ _
  · rw [modifySat_cfg, setSatOp_cfg]
  · rw [queue_eq_iff]
    exact ⟨by simp, by simp⟩

/-- The satellites below `k` created. -/
def State.createBelow (s : State) (k : Nat) : State := (List.range k).foldl (fun t a => t.createSat a) s

variable (k : Nat)

theorem createBelow_frame (x : List Sat) (y : List Slot) (q : List Word) (o : Bool) :
    { s.createBelow k with sats := x, slots := y, evq := q, evOvf := o }
      = { s with sats := x, slots := y, evq := q, evOvf := o } :=
  foldl_induct s (P := fun t => { t with sats := x, slots := y, evq := q, evOvf := o }
      = { s with sats := x, slots := y, evq := q, evOvf := o }) _
    (fun a _ t ht => (createSat_frame t a x y q o).trans ht) rfl

theorem createBelow_lengths :
    (s.createBelow k).sats.length = s.sats.length ∧ (s.createBelow k).slots.length = s.slots.length :=
  foldl_induct s (P := fun t => t.sats.length = s.sats.length ∧ t.slots.length = s.slots.length) _
    (fun a _ t ht => ⟨(createSat_sats_length t a).trans ht.1, (createSat_slots_length t a).trans ht.2⟩) ⟨rfl, rfl⟩

theorem newSatOp_congr {t : State} (h : t.link = s.link) : t.newSatOp = s.newSatOp := by
  rw [State.newSatOp, State.newSatOp, h]

/-- What the creation leaves at each address; the Link, and so the new op-state, is the same for all. -/
theorem createBelow_at (a : Nat) :
    if a < k then
      ∃ u : State, u.sats.length = s.sats.length ∧ u.slots.length = s.slots.length ∧ u.newSatOp = s.newSatOp
        ∧ u.at a = s.at a ∧ (s.createBelow k).at a = (u.createSat a).at a
    else (s.createBelow k).at a = s.at a := by
  have hat := foldl_at s
    (P := fun t => t.sats.length = s.sats.length ∧ t.slots.length = s.slots.length ∧ t.link = s.link)
    (fun a t => createSat_local t a)
    (fun a t ht => ⟨(createSat_sats_length t a).trans ht.1, (createSat_slots_length t a).trans ht.2.1,
      (createSat_link t a).trans ht.2.2⟩) (List.range k) List.nodup_range ⟨rfl, rfl, rfl⟩ a
  by_cases ha : a < k
  · rw [if_pos (List.mem_range.mpr ha)] at hat
    rw [if_pos ha]
    obtain ⟨u, ⟨hsats, hslots, hlink⟩, hu, hres⟩ := hat
    exact ⟨u, hsats, hslots, newSatOp_congr s hlink, hu, hres⟩
  · rw [if_neg (mt List.mem_range.mp ha)] at hat
    rw [if_neg ha]
    exact hat

theorem createBelow_sat (hk : k ≤ s.sats.length) (a : Nat) :
    (s.createBelow k).sat a = if a < k then (s.sat a).created s.newSatOp else s.sat a := by
  have hat := createBelow_at s k a
  by_cases ha : a < k
  · rw [if_pos ha] at hat ⊢
    obtain ⟨u, hsats, -, hop, hu, hres⟩ := hat
    rw [sat_of_at hres, createSat_sat u a (hsats ▸ ha.trans_le hk), sat_of_at hu, hop]
  · rw [if_neg ha] at hat ⊢
    exact sat_of_at hat

theorem createBelow_slot (hk : k ≤ s.slots.length) (i : Nat) :
    (s.createBelow k).slot i =
      if i < k then
        { s.slot i with txDirty := (s.slot i).txDirty || decide (s.newSatOp ≠ (s.sat i).op) }
      else s.slot i := by
  have hat := createBelow_at s k i
  by_cases hi : i < k
  · rw [if_pos hi] at hat ⊢
    obtain ⟨u, -, hslots, hop, hu, hres⟩ := hat
    rw [slot_of_at hres, createSat_slot u i (hslots ▸ hi.trans_le hk), slot_of_at hu, sat_of_at hu, hop]
  · rw [if_neg hi] at hat ⊢
    exact slot_of_at hat

theorem createBelow_queue :
    (s.createBelow k).queue = (s.emitAll ((List.range k).map fun a => .satExists a true)).queue := by
  unfold State.createBelow
  generalize List.range k = l
  induction l generalizing s with
  | nil => rfl
  | cons b l ih =>
    rw [List.foldl_cons, ih, List.map_cons]
    exact emitAll_queue_congr ((createSat_local s b).cfg.trans (emit_cfg s _).symm) (createSat_queue s b) _

end Creation

section Finish

variable (s : State)

theorem filter_lt_range {n k : Nat} (h : k ≤ n) :
    (List.range n).filter (fun a => decide (a < k)) = List.range k := by
  obtain ⟨m, rfl⟩ := Nat.exists_eq_add_of_le h
  have hlow : (List.range k).filter (fun a => decide (a < k)) = List.range k :=
    List.filter_eq_self.mpr fun a ha => decide_eq_true (List.mem_range.mp ha)
  have hhigh : ((List.range m).map (k + ·)).filter (fun a => decide (a < k)) = [] :=
    List.filter_eq_nil_iff.mpr fun a ha => by
      obtain ⟨b, -, rfl⟩ := List.mem_map.mp ha
      simp
  rw [List.range_add, List.filter_append, hlow, hhigh, List.append_nil]

/-- The slots and the Link at the end of discovery, before the satellites are created (R197). -/
def State.settled (s : State) : State :=
  { s with
    slots := s.slots.mapIdx fun i sl => Slot.settle s.disc.result.toNat i sl
    link := { s.link with noOfSats := s.disc.result } }

/-- Discovery ended, before the Link's flags change. -/
def State.finished (s : State) : State :=
  (s.windowEnded.settled.createBelow s.disc.result.toNat).setDisc ⟨.idle, 0, s.disc.result, s.disc.pending⟩

theorem finished_frame (x : List Sat) (y : List Slot) (q : List Word) (o : Bool) :
    { s.finished with sats := x, slots := y, evq := q, evOvf := o }
      = { s with
          link := { s.link with noOfSats := s.disc.result }, sats := x, slots := y, evq := q, evOvf := o
          disc := ⟨.idle, 0, s.disc.result, s.disc.pending⟩ } :=
  congrArg (State.setDisc · ⟨.idle, 0, s.disc.result, s.disc.pending⟩)
    (createBelow_frame s.windowEnded.settled s.disc.result.toNat x y q o)

theorem finished_link : s.finished.link = { s.link with noOfSats := s.disc.result } :=
  (congrArg State.link (finished_frame s s.sats s.slots s.evq s.evOvf) :)

theorem finished_cfg : s.finished.cfg = s.cfg :=
  (congrArg State.cfg (finished_frame s s.sats s.slots s.evq s.evOvf) :)

theorem finished_eq :
    s.windowEnded.discoveryFinish =
      if 0 < s.disc.result.toNat then
        (s.finished.opDeBlock .link (opFail ||| opInit)).emit (.discResult .ok s.disc.result)
      else s.finished.linkFailed.emit (.discResult .emptyBus 0) := by
  have hdisc : (s.windowEnded.settled.createBelow s.disc.result.toNat).disc = s.windowEnded.disc :=
    (congrArg State.disc (createBelow_frame s.windowEnded.settled s.disc.result.toNat s.sats s.slots s.evq s.evOvf) :)
  have hfinished : s.finished = (s.windowEnded.settled.createBelow s.disc.result.toNat).setDisc
      { (s.windowEnded.settled.createBelow s.disc.result.toNat).disc with state := .idle } := by
    rw [hdisc]
    rfl
  rw [hfinished]
  rfl

variable {s} (hshape : s.Shape)

theorem settled_slot (i : Nat) (hi : i < s.slots.length) :
    s.settled.slot i = Slot.settle s.disc.result.toNat i (s.slot i) := by
  show (s.slots.mapIdx fun i sl => Slot.settle s.disc.result.toNat i sl)[i]?.getD Slot.reset = _
  rw [List.getElem?_mapIdx, slots_getElem? hi]
  rfl

/-- INIT is still set, so the new satellites are CONTROL_BLOCKED. -/
theorem settled_newSatOp (hop : s.link.op ≠ 0) : s.windowEnded.settled.newSatOp = 0x06#5 := by
  rw [State.newSatOp]
  exact (if_neg hop).trans (by decide)

include hshape

theorem finished_shape : s.finished.Shape := by
  have hframe := finished_frame s s.sats s.slots s.evq s.evOvf
  have hcfg : s.finished.cfg = s.cfg := (congrArg State.cfg hframe :)
  have hconf : s.finished.conf = s.conf := (congrArg State.conf hframe :)
  have hline : s.finished.line = s.line := (congrArg State.line hframe :)
  obtain ⟨hsats, hslots⟩ := createBelow_lengths s.windowEnded.settled s.disc.result.toNat
  have hslots' : s.finished.slots.length = s.slots.length := hslots.trans List.length_mapIdx
  obtain ⟨h1, h2, h3, h4, h5, h6, h7⟩ := hshape
  refine ⟨?_, ?_, ?_, ?_, ?_, ?_, ?_⟩
  · rwa [hcfg]
  · rwa [hslots', hcfg]
  · rw [hcfg]
    exact hsats.trans h3
  · rwa [hconf, hcfg]
  · rwa [hconf, hcfg]
  · rwa [hconf, hcfg]
  · rwa [hline, hcfg]

theorem finished_lengths : s.finished.sats.length = s.sats.length ∧ s.finished.slots.length = s.slots.length := by
  have hf := finished_shape hshape
  exact ⟨by rw [hf.sats, finished_cfg, hshape.sats], by rw [hf.slots, finished_cfg, hshape.slots]⟩

variable (hop : s.link.op ≠ 0) (hresult : s.disc.result.toNat ≤ s.cfg.maxSats)
include hop hresult

theorem finished_sat (a : Nat) :
    s.finished.sat a = if a < s.disc.result.toNat then (s.sat a).created 0x06#5 else s.sat a := by
  have hsat := createBelow_sat s.windowEnded.settled s.disc.result.toNat (hshape.sats.symm ▸ hresult) a
  rw [settled_newSatOp hop] at hsat
  exact hsat

theorem finished_slot (i : Nat) (hi : i < s.slots.length) :
    s.finished.slot i =
      { Slot.settle s.disc.result.toNat i (s.slot i) with
        txDirty := (s.slot i).txDirty
          || decide (i < s.disc.result.toNat ∧ (s.sat i).op ≠ 0x06#5) } := by
  have hlen : s.windowEnded.settled.slots.length = s.slots.length := List.length_mapIdx
  have hle : s.disc.result.toNat ≤ s.windowEnded.settled.slots.length := by
    rw [hlen, hshape.slots]
    exact hresult.trans (Nat.le_succ _)
  have hslot := createBelow_slot s.windowEnded.settled s.disc.result.toNat hle i
  have hsettled : s.windowEnded.settled.slot i = Slot.settle s.disc.result.toNat i (s.slot i) :=
    settled_slot (s := s.windowEnded) i hi
  rw [settled_newSatOp hop, hsettled] at hslot
  refine Eq.trans hslot ?_
  by_cases hk : i < s.disc.result.toNat
  · rw [if_pos hk]
    simp only [hk, true_and, ne_comm]
    rfl
  · simp only [hk, false_and, if_false, decide_false, Bool.or_false]
    rfl

theorem finished_satPresent (hnone : ∀ a, s.satPresent a = false) (a : Nat) :
    s.finished.satPresent a = decide (a < s.disc.result.toNat) := by
  rw [State.satPresent, finished_cfg, finished_sat hshape hop hresult]
  by_cases ha : a < s.disc.result.toNat
  · rw [if_pos ha, decide_eq_true ha, decide_eq_true (ha.trans_le hresult)]
    rfl
  · rw [if_neg ha, decide_eq_false ha]
    exact hnone a

theorem finished_children (hnone : ∀ a, s.satPresent a = false) :
    s.finished.children = List.range s.disc.result.toNat := by
  unfold State.children State.addresses
  rw [finished_cfg, ← filter_lt_range hresult]
  exact List.filter_congr fun a _ => finished_satPresent hshape hop hresult hnone a

end Finish

section Endings

variable {s v : State}

/-- What the end of discovery leaves, with the Link's flags as they then are (R197 to R199). -/
structure DiscoveryEnds (s v : State) : Prop where
  link : v.link =
    { s.link with
      op := v.link.op
      noOfSats := s.disc.result
      cum := if v.link.op = 0 then LinkCounters.zero else s.link.cum
      sec := if v.link.op = 0 then LinkCounters.zero else s.link.sec }
  sat : ∀ a, v.sat a =
    if a < s.disc.result.toNat then (s.sat a).created (if v.link.op = 0 then 0x02#5 else 0x06#5) else s.sat a
  slot : ∀ i, i < s.slots.length → v.slot i =
    { Slot.settle s.disc.result.toNat i (s.slot i) with
      txDirty := (s.slot i).txDirty
        || decide (i < s.disc.result.toNat ∧ (v.link.op = 0 ∨ (s.sat i).op ≠ 0x06#5)) }
  satsLength : v.sats.length = s.sats.length
  slotsLength : v.slots.length = s.slots.length
  disc : v.disc = ⟨.idle, 0, s.disc.result, s.disc.pending⟩
  frame : { v with
    link := s.link, slots := s.slots, sats := s.sats, disc := s.disc, reest := s.reest
    evq := s.evq, evOvf := s.evOvf, env := s.env } = s

/-! How the Link's flags, the timer and the queue end. -/

theorem found_link_op :
    ((s.finished.opDeBlock .link (opFail ||| opInit)).emit (.discResult .ok s.disc.result)).link.op
      = s.link.op &&& 0x0E#5 := by
  rw [emit_link, opDeBlock_link_link, finished_link]
  rfl

theorem empty_queue (hop : s.link.op ≠ 0) (hempty : ¬ 0 < s.disc.result.toNat) :
    (s.finished.linkFailed.emit (.discResult .emptyBus 0)).queue =
      (s.emitAll [.opState .link (s.link.op ||| opFail), .opState .link ((s.link.op ||| opFail) &&& ~~~opInit),
        .discResult .emptyBus 0]).queue := by
  let f := s.finished
  have hcreated : f.queue = s.queue := by
    have hqueue := createBelow_queue s.windowEnded.settled s.disc.result.toNat
    rw [Nat.eq_zero_of_not_pos hempty] at hqueue
    show (s.windowEnded.settled.createBelow s.disc.result.toNat).queue = _
    rw [Nat.eq_zero_of_not_pos hempty]
    exact hqueue
  have hfop : f.link.op ≠ 0 := by rwa [finished_link]
  have hfailed := linkFailed_queue hfop
  rw [finished_link] at hfailed
  exact emit_queue_congr (((linkFailed_change f).cfg.trans (finished_cfg s)).trans (emitAll_cfg s _).symm)
    (hfailed.trans (emitAll_queue_congr (finished_cfg s) hcreated _)) _

variable (hshape : s.Shape) (hop : s.link.op ≠ 0) (hresult : s.disc.result.toNat ≤ s.cfg.maxSats)
include hshape hop hresult

/-- Discovery has found satellites. -/
theorem found_ends (hnone : ∀ a, s.satPresent a = false) :
    DiscoveryEnds s ((s.finished.opDeBlock .link (opFail ||| opInit)).emit (.discResult .ok s.disc.result)) := by
  let f := s.finished
  let x := f.opDeBlock .link (opFail ||| opInit)
  let v := x.emit (.discResult .ok s.disc.result)
  have hlink : f.link = { s.link with noOfSats := s.disc.result } := finished_link s
  have hvlink : v.link = x.link := emit_link x _
  have hxlink : x.link = _ := opDeBlock_link_link f (opFail ||| opInit)
  have hwoken : v.link.op = 0 ↔ f.wakes (opFail ||| opInit) := by
    rw [hvlink, hxlink, State.wakes, hlink]
    exact ⟨fun hzero => ⟨hop, hzero⟩, fun hw => hw.2⟩
  have hchange : OpChange f v := ((OpChange.refl f).opDeBlock .link (opFail ||| opInit)).emit _
  obtain ⟨hsats, hslots⟩ := finished_lengths hshape
  have hfshape := finished_shape hshape
  have hpresent := finished_satPresent hshape hop hresult hnone
  refine ⟨?link, fun a => ?sat, fun i hi => ?slot, hchange.satsLength.trans hsats, hchange.slotsLength.trans hslots,
    hchange.disc, ?frame⟩
  case link =>
    show v.link = { s.link with
      op := v.link.op, noOfSats := s.disc.result
      cum := if v.link.op = 0 then LinkCounters.zero else s.link.cum
      sec := if v.link.op = 0 then LinkCounters.zero else s.link.sec }
    rw [hvlink, hxlink, hlink]
    simp only [hop, ne_eq, not_false_eq_true, true_and]
  case sat =>
    have hsat := opDeBlock_link_sat f (opFail ||| opInit) hfshape a
    have hfsat := finished_sat hshape hop hresult a
    refine (sat_congr (emit_sats x _) a).trans (hsat.trans ?_)
    by_cases ha : a < s.disc.result.toNat
    · rw [if_pos ha] at hfsat ⊢
      by_cases hw : f.wakes (opFail ||| opInit)
      · rw [if_pos ⟨hw, (hpresent a).trans (decide_eq_true ha)⟩, if_pos (hwoken.mpr hw), hfsat]
        have hstays : ¬ (((s.sat a).created 0x06#5).op ≠ 0
            ∧ ((s.sat a).created 0x06#5).op &&& ~~~opControlBlocked = 0) := fun hc =>
          (by decide : ¬ 0x06#5 &&& ~~~opControlBlocked = 0) hc.2
        rw [if_neg hstays]
        exact congrArg (fun op => (s.sat a).created op) (by decide : 0x06#5 &&& ~~~opControlBlocked = 0x02#5)
      · rw [if_neg fun hc => hw hc.1, if_neg (mt hwoken.mp hw), hfsat]
    · have habsent : ¬ f.satPresent a = true := by
        rw [hpresent a, decide_eq_true_eq]
        exact ha
      rw [if_neg ha] at hfsat ⊢
      rw [if_neg fun hc => habsent hc.2, hfsat]
  case slot =>
    have hslot := opDeBlock_link_slot f (opFail ||| opInit) hfshape i
    have hfslot := finished_slot hshape hop hresult i hi
    have hfsat := finished_sat hshape hop hresult i
    refine (slot_congr (emit_slots x _) i).trans (hslot.trans ?_)
    show _ = { Slot.settle s.disc.result.toNat i (s.slot i) with
      txDirty := (s.slot i).txDirty || decide (i < s.disc.result.toNat ∧ (v.link.op = 0 ∨ (s.sat i).op ≠ 0x06#5)) }
    by_cases hw : f.wakes (opFail ||| opInit) ∧ i < s.disc.result.toNat
    · have hchanged : (f.sat i).op &&& ~~~opControlBlocked ≠ (f.sat i).op := by
        rw [hfsat, if_pos hw.2]
        exact (by decide : 0x06#5 &&& ~~~opControlBlocked ≠ 0x06#5)
      rw [if_pos ⟨hw.1, (hpresent i).trans (decide_eq_true hw.2), hchanged⟩, hfslot,
        decide_eq_true (⟨hw.2, .inl (hwoken.mpr hw.1)⟩ : _ ∧ (v.link.op = 0 ∨ _)), Bool.or_true]
    · have hsame : (i < s.disc.result.toNat ∧ (v.link.op = 0 ∨ (s.sat i).op ≠ 0x06#5))
          ↔ i < s.disc.result.toNat ∧ (s.sat i).op ≠ 0x06#5 :=
        ⟨fun ⟨hk, hor⟩ => ⟨hk, hor.resolve_left fun hzero => hw ⟨hwoken.mp hzero, hk⟩⟩, fun ⟨hk, hne⟩ => ⟨hk, .inr hne⟩⟩
      rw [if_neg fun hc => hw ⟨hc.1, of_decide_eq_true ((hpresent i).symm.trans hc.2.1)⟩, hfslot]
      simp only [hsame]
  case frame =>
    have hf := finished_frame s s.sats s.slots s.evq s.evOvf
    exact (congrArg (fun t : State => { t with
      link := s.link, slots := s.slots, sats := s.sats, disc := s.disc, reest := s.reest
      evq := s.evq, evOvf := s.evOvf, env := s.env }) hchange.frame).trans
      (congrArg (fun t : State => { t with
        link := s.link, disc := s.disc, reest := s.reest, env := s.env }) hf :)

/-- Discovery has found an empty bus. -/
theorem empty_ends (hempty : ¬ 0 < s.disc.result.toNat) :
    DiscoveryEnds s (s.finished.linkFailed.emit (.discResult .emptyBus 0)) := by
  let f := s.finished
  let v := f.linkFailed.emit (.discResult .emptyBus 0)
  have hlink : f.link = { s.link with noOfSats := s.disc.result } := finished_link s
  have hfop : f.link.op ≠ 0 := by rwa [hlink]
  have hvlink : v.link = { f.link with op := (f.link.op ||| opFail) &&& ~~~opInit } :=
    (emit_link _ _).trans (linkFailed_link f)
  have hvop : v.link.op ≠ 0 := by
    rw [hvlink]
    exact failed_ne_zero f.link.op
  have hchange : OpChange f v := (linkFailed_change f).emit _
  have hnobody (a : Nat) : ¬ a < s.disc.result.toNat := fun ha => hempty (a.zero_le.trans_lt ha)
  obtain ⟨hsats, hslots⟩ := finished_lengths hshape
  refine ⟨?link, fun a => ?sat, fun i hi => ?slot, hchange.satsLength.trans hsats, hchange.slotsLength.trans hslots,
    hchange.disc, ?frame⟩
  case link =>
    rw [if_neg hvop, if_neg hvop]
    exact hvlink.trans (by rw [hvlink, hlink])
  case sat =>
    rw [if_neg (hnobody a)]
    have hfsat := finished_sat hshape hop hresult a
    rw [if_neg (hnobody a)] at hfsat
    exact (sat_congr ((emit_sats _ _).trans (linkFailed_sats hfop)) a).trans hfsat
  case slot =>
    have hfslot := finished_slot hshape hop hresult i hi
    simp only [hnobody, false_and] at hfslot ⊢
    exact (slot_congr ((emit_slots _ _).trans (linkFailed_slots hfop)) i).trans hfslot
  case frame =>
    have hf := finished_frame s s.sats s.slots s.evq s.evOvf
    exact (congrArg (fun t : State => { t with
      link := s.link, slots := s.slots, sats := s.sats, disc := s.disc, reest := s.reest
      evq := s.evq, evOvf := s.evOvf, env := s.env }) hchange.frame).trans
      (congrArg (fun t : State => { t with
        link := s.link, disc := s.disc, reest := s.reest, env := s.env }) hf :)

theorem found_queue (hnone : ∀ a, s.satPresent a = false) :
    let op := s.link.op &&& 0x0E#5
    ((s.finished.opDeBlock .link (opFail ||| opInit)).emit (.discResult .ok s.disc.result)).queue =
      (s.emitAll ((List.range s.disc.result.toNat).map (fun a => .satExists a true)
        ++ ((if op = 0 then (List.range s.disc.result.toNat).map fun a => .opState (.sat a) 0x02#5 else [])
          ++ [.opState .link op, .discResult .ok s.disc.result]))).queue := by
  intro op
  let f := s.finished
  let found := List.range s.disc.result.toNat
  have hcreated : f.queue = (s.emitAll (found.map fun a => .satExists a true)).queue :=
    (createBelow_queue s.windowEnded.settled s.disc.result.toNat).trans
      (emitAll_queue_congr (s := s) (t := s.windowEnded.settled) rfl rfl _)
  have hdeblocked := opDeBlock_link_queue f (opFail ||| opInit)
  have hop' : f.link.op &&& ~~~(opFail ||| opInit) = op := by
    rw [finished_link]
    rfl
  have hwakes : f.wakes (opFail ||| opInit) ↔ op = 0 := by
    rw [State.wakes, hop', finished_link]
    exact and_iff_right hop
  have hcascade : (f.children.map fun a => Event.opState (.sat a) ((f.sat a).op &&& ~~~opControlBlocked))
      = found.map fun a => .opState (.sat a) 0x02#5 := by
    rw [finished_children hshape hop hresult hnone]
    refine List.map_congr_left fun a ha => ?_
    rw [finished_sat hshape hop hresult, if_pos (List.mem_range.mp ha)]
    exact congrArg (Event.opState (.sat a)) (by decide : 0x06#5 &&& ~~~opControlBlocked = 0x02#5)
  have hevents : (if f.wakes (opFail ||| opInit) then
        f.children.map fun a => Event.opState (.sat a) ((f.sat a).op &&& ~~~opControlBlocked) else [])
      ++ [.opState .link (f.link.op &&& ~~~(opFail ||| opInit))]
      = (if op = 0 then found.map fun a => .opState (.sat a) 0x02#5 else []) ++ [.opState .link op] :=
    congrArg₂ (· ++ ·) (if_congr hwakes hcascade rfl) (congrArg (fun x => [Event.opState .link x]) hop')
  rw [hevents] at hdeblocked
  have hends : (f.opDeBlock .link (opFail ||| opInit)).queue = (s.emitAll (found.map (fun a => .satExists a true)
      ++ ((if op = 0 then found.map fun a => .opState (.sat a) 0x02#5 else []) ++ [.opState .link op]))).queue := by
    rw [emitAll_append]
    exact hdeblocked.trans (emitAll_queue_congr ((finished_cfg s).trans (emitAll_cfg s _).symm) hcreated _)
  have hsplit : ∀ l : List Event, l ++ [.opState .link op, .discResult .ok s.disc.result]
      = (l ++ [.opState .link op]) ++ [.discResult .ok s.disc.result] := by
    intro l
    rw [List.append_assoc]
    rfl
  rw [hsplit, ← List.append_assoc, emitAll_append]
  refine emit_queue_congr ?_ hends _
  rw [opDeBlock_cfg, finished_cfg, emitAll_cfg]

/-- Both endings. -/
theorem finish_cases (hnone : ∀ a, s.satPresent a = false) :
    DiscoveryEnds s s.windowEnded.discoveryFinish
      ∧ (0 < s.disc.result.toNat →
          s.windowEnded.discoveryFinish =
            (s.finished.opDeBlock .link (opFail ||| opInit)).emit (.discResult .ok s.disc.result))
      ∧ (¬ 0 < s.disc.result.toNat →
          s.windowEnded.discoveryFinish = s.finished.linkFailed.emit (.discResult .emptyBus 0)) := by
  rw [finished_eq]
  by_cases hk : 0 < s.disc.result.toNat
  · rw [if_pos hk]
    exact ⟨found_ends hshape hop hresult hnone, fun _ => rfl, fun hn => absurd hk hn⟩
  · rw [if_neg hk]
    exact ⟨empty_ends hshape hop hresult hk, fun hp => absurd hp hk, fun _ => rfl⟩

end Endings

end Sys2Proof.Machine

section FinishStatement

open Sys2Proof Sys2Proof.Machine

/-- Settles O51: `DiscoveryEnds` says what both endings share; then whether any satellite was found. -/
theorem discoveryCreatesTheSatellitesFound : Obligations.DiscoveryCreatesTheSatellitesFound := by
  intro s hsound hinput hphase hstate hcnt
  let u := s.setEnv s.inputTaken.env
  have hu : s.inputTaken = u := inputTaken_setEnv s
  have hrunning : s.disc.state ≠ .idle := fun hidle => DiscState.noConfusion (hidle.symm.trans hstate)
  have hidle := selftests_idle_of_discovery hsound hrunning
  obtain ⟨hinit, -, hnone, -⟩ := hsound.discovery.running hrunning
  have hresult := (hsound.discovery.clear hstate).2
  have hushape : u.Shape := { hsound.shape with }
  have hop : s.link.op ≠ 0 := by
    intro hzero
    rw [hzero] at hinit
    exact absurd hinit (by decide)
  have hstepv : s.inputTaken.discoveryStep = u.windowEnded.discoveryFinish := by
    rw [hu]
    exact discoveryStep_of_clear (s := u) hstate hcnt
  obtain ⟨hends, hfound, hempty⟩ := finish_cases (s := u) hushape hop hresult hnone
  replace hends : DiscoveryEnds s u.windowEnded.discoveryFinish :=
    { hends with frame := congrArg (State.setEnv · s.env) hends.frame }
  have hnobody (hzero : s.disc.result = 0) : ¬ 0 < u.disc.result.toNat := by
    show ¬ 0 < s.disc.result.toNat
    rw [hzero]
    exact Nat.lt_irrefl 0
  generalize u.windowEnded.discoveryFinish = v at hstepv hends hfound hempty
  have hidlev (a : Nat) : (v.sat a).stPhase = .idle := by
    rw [hends.sat]
    split
    · rfl
    · exact hidle a
  have hstep := step_seq_of_idle hinput hphase hstepv hidlev
  have hcheck := reestCheck_frame v s.reest s.disc
  have hdisc := reestCheck_disc v
  rw [hends.disc] at hdisc
  have hlink : v.reestCheck.link = v.link := (congrArg State.link hcheck :)
  have hsats : v.reestCheck.sats = v.sats := (congrArg State.sats hcheck :)
  have hslots : v.reestCheck.slots = v.slots := (congrArg State.slots hcheck :)
  have henv : v.reestCheck.env = v.env := (congrArg State.env hcheck :)
  have hqueue : v.reestCheck.queue = v.queue := queue_eq_iff.mpr
    ⟨(congrArg State.evq hcheck :), (congrArg State.evOvf hcheck :)⟩
  have hcfg : v.cfg = s.cfg := (congrArg State.cfg hends.frame :)
  have htime : v.time = s.time := (congrArg State.time hends.frame :)
  have hslot (i : Nat) (hi : i < s.cfg.maxSats + 1) := hends.slot i (hsound.shape.slots.symm ▸ hi)
  refine ⟨_, hstep, (congrArg DiscRegs.state hdisc :), ?noOfSats, fun a => ?present, fun hk => ?foundOp,
    fun hzero => ?emptyOp, ⟨?link, fun i hi => ⟨?slotFrame, ?dirty⟩⟩, fun a ha => ?others, ?slotsLength, ?satsLength,
    (congrArg DiscRegs.cnt hdisc :), (congrArg DiscRegs.result hdisc :), fun hk => ⟨?foundEnv, ?foundReest⟩,
    fun hzero => ?emptyTimer, ?frame, fun a ha => ?created, fun i hi => ⟨?status, ?tm⟩, ?queue⟩
  case noOfSats => exact (congrArg LinkRegs.noOfSats hlink).trans (congrArg LinkRegs.noOfSats hends.link :)
  case present =>
    have hpresent : v.satPresent a = true ↔ a < s.disc.result.toNat := by
      rw [State.satPresent, hcfg, hends.sat]
      by_cases ha : a < s.disc.result.toNat
      · rw [if_pos ha, decide_eq_true (ha.trans_le hresult)]
        exact iff_of_true rfl ha
      · rw [if_neg ha]
        exact iff_of_false (Bool.eq_false_iff.mp (hnone a)) ha
    have hcfg' : v.reestCheck.cfg = v.cfg := (congrArg State.cfg hcheck :)
    rw [← hpresent, ← satPresent_congr hcfg' hsats]
    rfl
  case foundOp =>
    refine (congrArg LinkRegs.op hlink).trans ?_
    rw [hfound hk]
    exact found_link_op
  case emptyOp =>
    refine (congrArg LinkRegs.op hlink).trans ?_
    rw [hempty (hnobody hzero), emit_link, linkFailed_link, finished_link]
    rfl
  case link => exact hlink.trans (hends.link.trans (by rw [← hlink]; rfl))
  case slotFrame =>
    have hv : v.reestCheck.slot i = _ := (slot_congr hslots i).trans (hslot i hi)
    exact (congrArg (fun sl : Slot => { sl with
      status := (s.slot i).status, tm := (s.slot i).tm, txDirty := (s.slot i).txDirty }) hv :)
  case dirty =>
    have hv : v.reestCheck.slot i = _ := (slot_congr hslots i).trans (hslot i hi)
    refine (congrArg Slot.txDirty hv :).trans ?_
    show _ = ((s.slot i).txDirty
      || decide (i < s.disc.result.toNat ∧ (v.reestCheck.link.op = 0 ∨ (s.sat i).op ≠ 0x06#5)))
    rw [hlink]
  case others => exact (sat_congr hsats a).trans ((hends.sat a).trans (if_neg (Nat.not_lt.mpr ha)))
  case slotsLength => exact (congrArg List.length hslots).trans hends.slotsLength
  case satsLength => exact (congrArg List.length hsats).trans hends.satsLength
  case foundEnv =>
    refine henv.trans ?_
    rw [hfound hk, emit_env, opDeBlock_env, hu]
    exact (congrArg State.env (finished_frame u u.sats u.slots u.evq u.evOvf) :)
  case foundReest =>
    have hreest : v.reest = s.reest := by
      rw [hfound hk, emit_reest, opDeBlock_reest]
      exact (congrArg State.reest (finished_frame u u.sats u.slots u.evq u.evOvf) :)
    obtain ⟨hr, hp⟩ := reestCheck_congr (t := v)
      (s := { s with link := (v.reestCheck.setPhase .timing).link, disc := { s.disc with state := .idle } })
      hreest htime hlink.symm (congrArg DiscRegs.state hends.disc :) (congrArg DiscRegs.pending hends.disc :)
    exact ⟨hp, hr⟩
  case emptyTimer =>
    have hv := hempty (hnobody hzero)
    have htick : u.finished.tick.env = u.tick.env :=
      tick_env_congr (congrArg State.env (finished_frame u u.sats u.slots u.evq u.evOvf) :)
    have hvenv : v.env = u.tick.env := by rw [hv, emit_env, (linkFailed_timer _).1, htick]
    have hvreest : v.reest = ⟨true, v.env.clock + s.cfg.tReestablishMs⟩ := by
      rw [hvenv, hv, emit_reest, (linkFailed_timer _).2, htick, finished_cfg]
      rfl
    have hclock : s.env.clock ≤ v.env.clock := by
      rw [hvenv, ← inputTaken_clock s]
      exact tick_clock_le u
    have hquiet : v.reestCheck = v := reestCheck_of_just_armed hsound.shape.legal hvreest
      (by rw [htime]; exact hsound.times.budget.trans hclock)
    rw [hquiet, hu]
    exact ⟨hvenv, (congrArg DiscRegs.pending hends.disc :), hvreest⟩
  case frame =>
    exact (congrArg (fun t : State => { t with
      scanPhase := s.scanPhase, link := s.link, slots := s.slots, sats := s.sats
      evq := s.evq, evOvf := s.evOvf, env := s.env }) hcheck).trans
      (congrArg (State.setPhase · s.scanPhase) hends.frame :)
  case created =>
    refine (sat_congr hsats a).trans ((hends.sat a).trans ((if_pos ha).trans ?_))
    rw [← hlink]
    rfl
  case status =>
    have hv : v.reestCheck.slot i = _ := (slot_congr hslots i).trans (hslot i hi)
    exact (congrArg Slot.status hv :)
  case tm =>
    have hv : v.reestCheck.slot i = _ := (slot_congr hslots i).trans (hslot i hi)
    refine (congrArg Slot.tm hv :).trans ?_
    show (if s.disc.result.toNat ≤ i then allInactive else (s.slot i).tm) = _
    by_cases hk : i < s.disc.result.toNat
    · rw [if_neg (Nat.not_le.mpr hk), if_pos hk]
    · rw [if_pos (Nat.not_lt.mp hk), if_neg hk]
      rfl
  case queue =>
    refine queue_eq_iff.mp (hqueue.trans ?_)
    have hemit (l : List Event) : (u.emitAll l).queue = (s.emitAll l).queue :=
      emitAll_queue_congr (s := s) (t := u) rfl rfl l
    simp only [setPhase_link, hlink]
    by_cases hzero : s.disc.result = 0
    · have hk := hnobody hzero
      have hvop : v.link.op = (s.link.op ||| opFail) &&& ~~~opInit := by
        rw [hempty hk, emit_link, linkFailed_link, finished_link]
        rfl
      rw [if_pos hzero, hvop, hzero, hempty hk]
      exact (empty_queue (s := u) hop hk).trans (hemit _)
    · have hk : 0 < u.disc.result.toNat := by
        refine Nat.pos_of_ne_zero fun hz => hzero (BitVec.eq_of_toNat_eq ?_)
        exact hz
      have hvop : v.link.op = s.link.op &&& 0x0E#5 := by
        rw [hfound hk]
        exact found_link_op
      rw [if_neg hzero, hvop, hfound hk]
      exact (found_queue (s := u) hushape hop hresult hnone).trans (hemit _)

end FinishStatement

/-! # The self-test steps of SEQ (spec/45_selftest.md R231 to R235) -/

namespace Sys2Proof.Machine

section OneStep

/-! ## What a step makes of its satellite and slot -/

/-- The code with which a self-test ends in this cycle, `none` where it goes on. -/
def Sat.testCode (x : Sat) : Option SelftestCode :=
  if x.stCnt = 1 then
    match x.stPhase with
    | .idle => none
    | .srv => if x.test.tremcrc = 0 then some .serverCrcFailure else none
    | .cli => if x.test.trxcrc = 0 then some .clientCrcFailure else none
    | .wd => if x.test.twd = 0 then some .watchdogFailure else some .success
  else none

theorem testCode_of_idle {x : Sat} (h : x.stPhase = .idle) : x.testCode = none := by
  rw [Sat.testCode, h]
  split <;> rfl

/-- Only SRV and CLI go on to another phase. -/
theorem testCode_none {x : Sat} (hcnt : x.stCnt = 1) (hrunning : x.stPhase ≠ .idle) (h : x.testCode = none) :
    x.stPhase = .srv ∨ x.stPhase = .cli := by
  rw [Sat.testCode, if_pos hcnt] at h
  cases hph : x.stPhase with
  | idle => exact absurd hph hrunning
  | srv => exact .inl rfl
  | cli => exact .inr rfl
  | wd =>
    rw [hph] at h
    dsimp only at h
    split at h <;> cases h

/-- An implicit self-test that ends with `c` sets FAIL (R235). -/
def Sat.testFails (x : Sat) (c : SelftestCode) : Bool := x.stImplicit && decide (c ≠ .success)

/-- The satellite after its self-test has ended with `c`. -/
def Sat.testEnded (x : Sat) (c : SelftestCode) : Sat :=
  { x with
    stPhase := .idle, stCnt := 0, stImplicit := false
    op := if x.testFails c then x.op ||| opFail else x.op }

/-- The phase that follows. -/
def StPhase.next : StPhase → StPhase
  | .srv => .cli
  | .cli => .wd
  | ph => ph

/-- The requests of the next phase, set over those of the one that is done. -/
def StPhase.advanceRequests (ph : StPhase) (req : PerTest Bool) : PerTest Bool :=
  match ph with
  | .srv => (req.set .srv false).set .cli true
  | .cli => (req.set .cli false).set .wd true
  | _ => req

/-- The satellite at the end of a phase; `cycles` is SELFTEST_PHASE_CYCLES. -/
def Sat.phaseEnded (cycles : Nat) (x : Sat) : Sat :=
  match x.testCode with
  | some c => x.testEnded c
  | none => { x with stPhase := x.stPhase.next, stCnt := BitVec.ofNat 16 cycles }

/-- The satellite after its step. -/
def Sat.selftestStepped (cycles : Nat) (x : Sat) : Sat :=
  if x.stPhase = .idle then x
  else if x.stCnt = 1 then x.phaseEnded cycles
  else { x with stCnt := x.stCnt - 1 }

/-- The slot of satellite `x` after its step. -/
def Slot.selftestStepped (x : Sat) (sl : Slot) : Slot :=
  if x.stPhase = .idle then sl
  else if x.stCnt = 1 then
    { sl with
      txDirty := true
      txReq := if x.testCode.isSome then noRequests else x.stPhase.advanceRequests sl.txReq }
  else sl

/-- The events of a step. -/
def Sat.selftestEvents (a : Nat) (x : Sat) : List Event :=
  match x.testCode with
  | none => []
  | some c => .selftestResult a c :: if x.testFails c then [.opState (.sat a) (x.op ||| opFail)] else []

/-! ## The end of a self-test and the move to the next phase -/

variable (s : State) (a : Nat)

theorem selftestFinish_frame (code : SelftestCode) (x : List Sat) (y : List Slot) (q : List Word) (o : Bool) :
    { s.selftestFinish a code with sats := x, slots := y, evq := q, evOvf := o }
      = { s with sats := x, slots := y, evq := q, evOvf := o } := by
  unfold State.selftestFinish
  simp only []
  split
  · simp [State.opBlock, State.writeTx]
  · simp [State.writeTx]

theorem selftestFinish_lengths (code : SelftestCode) :
    (s.selftestFinish a code).sats.length = s.sats.length ∧ (s.selftestFinish a code).slots.length = s.slots.length := by
  unfold State.selftestFinish
  simp only []
  split
  · simp [State.opBlock, State.writeTx]
  · simp [State.writeTx]

/-- The self-test taken off satellite and slot, and its result told, before FAIL is set. -/
def State.testTold (s : State) (a : Nat) (code : SelftestCode) : State :=
  ((s.writeTx a fun sl => { sl with txReq := noRequests }).modifySat a fun x =>
    { x with stPhase := .idle, stCnt := 0, stImplicit := false }).emit (.selftestResult a code)

theorem selftestFinish_eq (code : SelftestCode) :
    s.selftestFinish a code =
      if (s.sat a).testFails code then (s.testTold a code).blockOne (.sat a) opFail else s.testTold a code := rfl

theorem testTold_sat (code : SelftestCode) (h : a < s.sats.length) :
    (s.testTold a code).sat a = { s.sat a with stPhase := .idle, stCnt := 0, stImplicit := false } :=
  (sat_congr (emit_sats _ _) a).trans (modifySat_sat (s := s.writeTx a _) h _)

theorem testTold_slot (code : SelftestCode) (h : a < s.slots.length) :
    (s.testTold a code).slot a = { s.slot a with txReq := noRequests, txDirty := true } :=
  (slot_congr (emit_slots _ _) a).trans (writeTx_slot h _)

theorem testTold_lengths (code : SelftestCode) :
    (s.testTold a code).sats.length = s.sats.length ∧ (s.testTold a code).slots.length = s.slots.length := by
  simp [State.testTold, State.writeTx]

theorem selftestFinish_sat (code : SelftestCode) (h : a < s.sats.length) :
    (s.selftestFinish a code).sat a = (s.sat a).testEnded code := by
  rw [selftestFinish_eq, Sat.testEnded]
  split
  · rw [blockOne_sat _ a _ ((testTold_lengths s a code).1.symm ▸ h), testTold_sat s a code h]
  · exact testTold_sat s a code h

theorem selftestFinish_slot (code : SelftestCode) (h : a < s.slots.length) :
    (s.selftestFinish a code).slot a = { s.slot a with txReq := noRequests, txDirty := true } := by
  rw [selftestFinish_eq]
  split
  · rw [blockOne_slot _ a _ ((testTold_lengths s a code).2.symm ▸ h), testTold_slot s a code h, Bool.true_or]
  · exact testTold_slot s a code h

theorem testTold_queue (code : SelftestCode) :
    (s.testTold a code).queue = (s.emit (.selftestResult a code)).queue :=
  emit_queue_congr (s := s) (t := (s.writeTx a _).modifySat a _) rfl rfl _

theorem selftestFinish_queue (code : SelftestCode) (h : a < s.sats.length) :
    (s.selftestFinish a code).queue =
      (s.emitAll (.selftestResult a code ::
        if (s.sat a).testFails code then [.opState (.sat a) ((s.sat a).op ||| opFail)] else [])).queue := by
  rw [selftestFinish_eq]
  split
  · rw [blockOne_queue, State.op, testTold_sat s a code h]
    refine emit_queue_congr ?_ (testTold_queue s a code) _
    simp [State.testTold, State.writeTx]
  · exact testTold_queue s a code

theorem selftestAdvance_sat (done next : TestKind) (ph : StPhase) (h : a < s.sats.length) :
    (s.selftestAdvance a done next ph).sat a =
      { s.sat a with stPhase := ph, stCnt := BitVec.ofNat 16 s.cfg.selftestPhaseCycles } :=
  modifySat_sat (s := (s.setTxReq a done false).setTxReq a next true) h _

theorem selftestAdvance_slot (done next : TestKind) (ph : StPhase) (h : a < s.slots.length) :
    (s.selftestAdvance a done next ph).slot a =
      { s.slot a with txReq := ((s.slot a).txReq.set done false).set next true, txDirty := true } := by
  have hlen : a < (s.setTxReq a done false).slots.length := by simpa [State.setTxReq, State.writeTx] using h
  have hslot : ((s.setTxReq a done false).setTxReq a next true).slot a = _ := writeTx_slot hlen _
  refine Eq.trans hslot ?_
  rw [State.setTxReq, writeTx_slot h]

theorem selftestAdvance_lengths (done next : TestKind) (ph : StPhase) :
    (s.selftestAdvance a done next ph).sats.length = s.sats.length
      ∧ (s.selftestAdvance a done next ph).slots.length = s.slots.length := by
  simp [State.selftestAdvance, State.setTxReq, State.writeTx]

/-! ## The end of a phase

All at once: where the test ends with `c` it is finished with `c`, else it moves on. -/

/-- The state in which the last cycle of the phase is counted. -/
def State.phaseOver (s : State) (a : Nat) : State := s.modifySat a fun x => { x with stCnt := x.stCnt - 1 }

theorem phaseOver_sat (h : a < s.sats.length) :
    (s.phaseOver a).sat a = { s.sat a with stCnt := (s.sat a).stCnt - 1 } := modifySat_sat h _

theorem selftestStep_of_more (h : a < s.sats.length) (hrunning : (s.sat a).stPhase ≠ .idle)
    (hcnt : (s.sat a).stCnt ≠ 1) : s.selftestStep a = s.phaseOver a := by
  have hmore : ((s.phaseOver a).sat a).stCnt ≠ 0 := by
    rw [phaseOver_sat s a h]
    exact fun hzero => hcnt (sub_eq_zero.mp hzero)
  rw [State.selftestStep, if_neg hrunning]
  exact if_neg hmore

theorem selftestStep_of_last (h : a < s.sats.length) (hrunning : (s.sat a).stPhase ≠ .idle)
    (hcnt : (s.sat a).stCnt = 1) : s.selftestStep a = (s.phaseOver a).selftestPhaseEnd a := by
  have hlast : ((s.phaseOver a).sat a).stCnt = 0 := by
    rw [phaseOver_sat s a h, hcnt]
    rfl
  rw [State.selftestStep, if_neg hrunning]
  exact if_pos hlast

/-- The two ways a phase can end. -/
theorem selftestStep_last_cases (h : a < s.sats.length) (hrunning : (s.sat a).stPhase ≠ .idle)
    (hcnt : (s.sat a).stCnt = 1) :
    (∃ c, (s.sat a).testCode = some c ∧ s.selftestStep a = (s.phaseOver a).selftestFinish a c)
      ∨ (s.sat a).testCode = none ∧ ∃ done next,
          (∀ req : PerTest Bool, (req.set done false).set next true = (s.sat a).stPhase.advanceRequests req)
            ∧ s.selftestStep a = (s.phaseOver a).selftestAdvance a done next (s.sat a).stPhase.next := by
  have hover := phaseOver_sat s a h
  rw [selftestStep_of_last s a h hrunning hcnt, State.selftestPhaseEnd, Sat.testCode, if_pos hcnt, hover]
  cases hph : (s.sat a).stPhase with
  | idle => exact absurd hph hrunning
  | srv =>
    by_cases hzero : (s.sat a).test.tremcrc = 0
    · simp only [hzero, if_true]
      exact .inl ⟨_, rfl, rfl⟩
    · simp only [hzero, if_false]
      exact .inr ⟨trivial, .srv, .cli, fun _ => rfl, rfl⟩
  | cli =>
    by_cases hzero : (s.sat a).test.trxcrc = 0
    · simp only [hzero, if_true]
      exact .inl ⟨_, rfl, rfl⟩
    · simp only [hzero, if_false]
      exact .inr ⟨trivial, .cli, .wd, fun _ => rfl, rfl⟩
  | wd =>
    by_cases hzero : (s.sat a).test.twd = 0
    · simp only [hzero, if_true]
      exact .inl ⟨_, rfl, rfl⟩
    · simp only [hzero, if_false]
      exact .inl ⟨_, rfl, rfl⟩

/-! ## One step -/

theorem selftestStep_frame (x : List Sat) (y : List Slot) (q : List Word) (o : Bool) :
    { s.selftestStep a with sats := x, slots := y, evq := q, evOvf := o }
      = { s with sats := x, slots := y, evq := q, evOvf := o } := by
  have hfinish (c : SelftestCode) := selftestFinish_frame (s.phaseOver a) a c x y q o
  unfold State.selftestStep
  split
  · rfl
  simp only []
  split
  · unfold State.selftestPhaseEnd
    split
    · rfl
    · split
      · exact hfinish _
      · rfl
    · split
      · exact hfinish _
      · rfl
    · split
      · exact hfinish _
      · exact hfinish _
  · rfl

theorem selftestStep_lengths :
    (s.selftestStep a).sats.length = s.sats.length ∧ (s.selftestStep a).slots.length = s.slots.length := by
  have hover : (s.phaseOver a).sats.length = s.sats.length := modifySat_length s a _
  by_cases h : a < s.sats.length
  · by_cases hrunning : (s.sat a).stPhase = .idle
    · rw [selftestStep_of_idle s hrunning]
      exact ⟨rfl, rfl⟩
    by_cases hcnt : (s.sat a).stCnt = 1
    · rcases selftestStep_last_cases s a h hrunning hcnt with ⟨c, -, hstep⟩ | ⟨-, done, next, -, hstep⟩
      · rw [hstep, (selftestFinish_lengths _ a c).1, (selftestFinish_lengths _ a c).2]
        exact ⟨hover, rfl⟩
      · rw [hstep, (selftestAdvance_lengths _ a done next _).1, (selftestAdvance_lengths _ a done next _).2]
        exact ⟨hover, rfl⟩
    · rw [selftestStep_of_more s a h hrunning hcnt]
      exact ⟨hover, rfl⟩
  · have hidle : (s.sat a).stPhase = .idle := by
      rw [sat_of_le (Nat.not_lt.mp h)]
      rfl
    rw [selftestStep_of_idle s hidle]
    exact ⟨rfl, rfl⟩

theorem selftestStep_sat (h : a < s.sats.length) :
    (s.selftestStep a).sat a = (s.sat a).selftestStepped s.cfg.selftestPhaseCycles := by
  have hlt : a < (s.phaseOver a).sats.length := h.trans_eq (modifySat_length s a _).symm
  rw [Sat.selftestStepped]
  by_cases hrunning : (s.sat a).stPhase = .idle
  · rw [if_pos hrunning, selftestStep_of_idle s hrunning]
  rw [if_neg hrunning]
  by_cases hcnt : (s.sat a).stCnt = 1
  · rw [if_pos hcnt, Sat.phaseEnded]
    rcases selftestStep_last_cases s a h hrunning hcnt with ⟨c, hcode, hstep⟩ | ⟨hcode, done, next, -, hstep⟩
    · rw [hstep, hcode, selftestFinish_sat _ a c hlt, phaseOver_sat s a h]
      rfl
    · rw [hstep, hcode, selftestAdvance_sat _ a done next _ hlt, phaseOver_sat s a h]
      rfl
  · rw [if_neg hcnt, selftestStep_of_more s a h hrunning hcnt, phaseOver_sat s a h]

theorem selftestStep_slot (h : a < s.sats.length) (hs : a < s.slots.length) :
    (s.selftestStep a).slot a = (s.slot a).selftestStepped (s.sat a) := by
  rw [Slot.selftestStepped]
  by_cases hrunning : (s.sat a).stPhase = .idle
  · rw [if_pos hrunning, selftestStep_of_idle s hrunning]
  rw [if_neg hrunning]
  by_cases hcnt : (s.sat a).stCnt = 1
  · rw [if_pos hcnt]
    rcases selftestStep_last_cases s a h hrunning hcnt with ⟨c, hcode, hstep⟩ | ⟨hcode, done, next, hreq, hstep⟩
    · rw [hstep, hcode]
      exact selftestFinish_slot (s.phaseOver a) a c hs
    · rw [hstep, hcode]
      exact (selftestAdvance_slot (s.phaseOver a) a done next _ hs).trans
        (congrArg (fun req => { s.slot a with txReq := req, txDirty := true }) (hreq _))
  · rw [if_neg hcnt, selftestStep_of_more s a h hrunning hcnt]
    rfl

theorem selftestStep_queue (h : a < s.sats.length) :
    (s.selftestStep a).queue = (s.emitAll ((s.sat a).selftestEvents a)).queue := by
  have hlt : a < (s.phaseOver a).sats.length := h.trans_eq (modifySat_length s a _).symm
  rw [Sat.selftestEvents]
  by_cases hrunning : (s.sat a).stPhase = .idle
  · rw [selftestStep_of_idle s hrunning, testCode_of_idle hrunning]
    rfl
  by_cases hcnt : (s.sat a).stCnt = 1
  · rcases selftestStep_last_cases s a h hrunning hcnt with ⟨c, hcode, hstep⟩ | ⟨hcode, done, next, -, hstep⟩
    · rw [hstep, hcode, selftestFinish_queue _ a c hlt, phaseOver_sat s a h]
      exact emitAll_queue_congr (s := s) (t := s.phaseOver a) rfl rfl _
    · rw [hstep, hcode]
      rfl
  · rw [selftestStep_of_more s a h hrunning hcnt, Sat.testCode, if_neg hcnt]
    rfl

end OneStep

section AllSteps

variable (s : State)

/-- What a walk leaves of each satellite and slot, where a visit makes `f` of its own satellite and `fs` of its
slot. -/
theorem forEachSat_sat_slot {g : Nat → State → State} {f : Sat → Sat} {fs : Sat → Slot → Slot}
    (hl : ∀ a t, Local a t (g a t))
    (hlen : ∀ a t, (g a t).sats.length = t.sats.length ∧ (g a t).slots.length = t.slots.length)
    (hsat : ∀ a t, t.cfg = s.cfg → a < t.sats.length → (g a t).sat a = f (t.sat a))
    (hslot : ∀ a t, a < t.sats.length → a < t.slots.length → (g a t).slot a = fs (t.sat a) (t.slot a))
    (hshape : s.Shape) (a : Nat) :
    ((s.forEachSat g).sat a = if s.satPresent a = true then f (s.sat a) else s.sat a)
      ∧ (s.forEachSat g).slot a = if s.satPresent a = true then fs (s.sat a) (s.slot a) else s.slot a := by
  have hvisit := forEachSat_visits s
    (P := fun t => t.sats.length = s.sats.length ∧ t.slots.length = s.slots.length) hl
    (fun a t ht _ => ⟨(hlen a t).1.trans ht.1, (hlen a t).2.trans ht.2⟩) ⟨rfl, rfl⟩ a
  by_cases hp : s.satPresent a = true
  · rw [if_pos hp] at hvisit
    obtain ⟨u, ⟨husats, huslots⟩, hcfg, hat, hres⟩ := hvisit
    have hlt : a < u.sats.length := husats ▸ (present_lt hp).2
    rw [if_pos hp, if_pos hp, sat_of_at hres, slot_of_at hres, hsat a u hcfg hlt,
      hslot a u hlt (huslots ▸ present_slot_lt hshape hp), sat_of_at hat, slot_of_at hat]
    exact ⟨rfl, rfl⟩
  · rw [if_neg hp] at hvisit
    rw [if_neg hp, if_neg hp]
    exact ⟨sat_of_at hvisit, slot_of_at hvisit⟩

/-- The self-test steps of one SEQ. -/
def State.selftestsStepped (s : State) : State := s.forEachSat fun a t => t.selftestStep a

theorem selftestsStepped_frame (x : List Sat) (y : List Slot) (q : List Word) (o : Bool) :
    { s.selftestsStepped with sats := x, slots := y, evq := q, evOvf := o }
      = { s with sats := x, slots := y, evq := q, evOvf := o } :=
  forEachSat_keeps s (fun t => { t with sats := x, slots := y, evq := q, evOvf := o })
    fun a t => selftestStep_frame t a x y q o

theorem selftestsStepped_lengths :
    s.selftestsStepped.sats.length = s.sats.length ∧ s.selftestsStepped.slots.length = s.slots.length :=
  ⟨forEachSat_sats_length s fun a t => (selftestStep_lengths t a).1,
    forEachSat_slots_length s fun a t => (selftestStep_lengths t a).2⟩

theorem selftestsStepped_at (hshape : s.Shape) (a : Nat) :
    (s.selftestsStepped.sat a =
        if s.satPresent a = true then (s.sat a).selftestStepped s.cfg.selftestPhaseCycles else s.sat a)
      ∧ s.selftestsStepped.slot a =
        if s.satPresent a = true then (s.slot a).selftestStepped (s.sat a) else s.slot a :=
  forEachSat_sat_slot s (fs := fun x sl => sl.selftestStepped x) (fun a t => selftestStep_local t a)
    (fun a t => selftestStep_lengths t a) (fun a t hcfg h => hcfg ▸ selftestStep_sat t a h)
    (fun a t h hs => selftestStep_slot t a h hs) hshape a

theorem selftestsStepped_queue :
    s.selftestsStepped.queue = (s.emitAll (s.children.flatMap fun a => (s.sat a).selftestEvents a)).queue :=
  forEachSat_queues s (evs := fun a x => x.selftestEvents a) (fun a t => selftestStep_local t a)
    fun a t hp => selftestStep_queue t a (present_lt hp).2

theorem step_seq_of_no_discovery {s : State} (hinput : s.input = .scan) (hphase : s.scanPhase = .seq)
    (hidle : s.disc.state = .idle) :
    step s = .next ((s.setEnv s.inputTaken.env).selftestsStepped.reestCheck.setPhase .timing) := by
  have hdisc : (s.setEnv s.inputTaken.env).discoveryStep = s.setEnv s.inputTaken.env :=
    discoveryStep_of_idle (s := s.setEnv s.inputTaken.env) hidle
  rw [step_seq hinput hphase, State.scanSeq, inputTaken_setEnv, hdisc]
  rfl

end AllSteps

end Sys2Proof.Machine

section SelftestStatement

open Sys2Proof Sys2Proof.Machine

/-- Settles O52: SEQ without discovery is the walk of the self-test steps, each of which `selftestStepped` describes. -/
theorem selftestPhasesFollowTheirCounters : Obligations.SelftestPhasesFollowTheirCounters := by
  intro s hsound hinput hphase hidle
  let u := s.setEnv s.inputTaken.env
  let w := u.selftestsStepped
  have hushape : u.Shape := { hsound.shape with }
  have hframe := selftestsStepped_frame u s.sats s.slots s.evq s.evOvf
  have hcheck := reestCheck_frame w s.reest s.disc
  have hwlink : w.link = s.link := (congrArg State.link hframe :)
  have hwdisc : w.disc = s.disc := (congrArg State.disc hframe :)
  have hat := selftestsStepped_at u hushape
  have hsats : w.reestCheck.sats = w.sats := (congrArg State.sats hcheck :)
  have hslots : w.reestCheck.slots = w.slots := (congrArg State.slots hcheck :)
  obtain ⟨hreest, hpending⟩ := reestCheck_congr (s := s) (t := w) (congrArg State.reest hframe :)
    (congrArg State.time hframe :) hwlink (by rw [hwdisc]) (by rw [hwdisc])
  have hdisc : w.reestCheck.disc = s.reestCheck.disc := by
    rw [reestCheck_disc w, reestCheck_disc s, hpending, hwdisc]
  have hrequests (a : Nat) (hp : s.satPresent a = true) : (s.slot a).txReq = (s.sat a).stPhase.requests := by
    have hidle' : s.disc.state ≠ .probe := fun hprobe => DiscState.noConfusion (hidle.symm.trans hprobe)
    rw [hsound.requests a _ (slots_getElem? (present_slot_lt hsound.shape hp)), State.expectedRequests, if_neg hidle']
  refine ⟨_, step_seq_of_no_discovery hinput hphase hidle, ?queue, fun a hnot => ?others, ?slotsLength, ?satsLength,
    hdisc, hreest, ?env, ?frame, fun a hp hrunning => ⟨fun hmore => ?more, fun hlast => ⟨?dirty, ?slotFrame, ?ends⟩⟩⟩
  case queue =>
    have hqueue : w.reestCheck.queue = w.queue := queue_eq_iff.mpr
      ⟨(congrArg State.evq hcheck :), (congrArg State.evOvf hcheck :)⟩
    have hemit := emitAll_queue_congr (s := s) (t := u) rfl rfl (s.children.flatMap fun a => (s.sat a).selftestEvents a)
    exact queue_eq_iff.mp ((hqueue.trans (selftestsStepped_queue u)).trans hemit)
  case others =>
    obtain ⟨hsat, hslot⟩ := hat a
    have hkept : w.sat a = s.sat a ∧ w.slot a = s.slot a := by
      by_cases hp : u.satPresent a = true
      · have hrest : (s.sat a).stPhase = .idle := not_not.mp fun hrunning => hnot ⟨hp, hrunning⟩
        rw [if_pos hp] at hsat hslot
        exact ⟨hsat.trans (if_pos hrest), hslot.trans (if_pos hrest)⟩
      · rw [if_neg hp] at hsat hslot
        exact ⟨hsat, hslot⟩
    exact ⟨(sat_congr hsats a).trans hkept.1, (slot_congr hslots a).trans hkept.2⟩
  case slotsLength => exact (congrArg List.length hslots).trans (selftestsStepped_lengths u).2
  case satsLength => exact (congrArg List.length hsats).trans (selftestsStepped_lengths u).1
  case env => exact ((congrArg State.env hcheck :) : w.reestCheck.env = w.env).trans (congrArg State.env hframe :)
  case frame =>
    exact (congrArg (fun t : State => { t with
      scanPhase := s.scanPhase, slots := s.slots, sats := s.sats, evq := s.evq, evOvf := s.evOvf, env := s.env })
      hcheck).trans (congrArg (fun t : State => { t with
        scanPhase := s.scanPhase, disc := s.disc, reest := s.reest, env := s.env }) hframe :)
  all_goals
    obtain ⟨hsat, hslot⟩ := hat a
    rw [if_pos (show u.satPresent a = true from hp)] at hsat hslot
    replace hsat := (sat_congr hsats a).trans (hsat.trans (if_neg hrunning))
    replace hslot := (slot_congr hslots a).trans (hslot.trans (if_neg hrunning))
  case more =>
    exact ⟨hsat.trans (if_neg hmore), hslot.trans (if_neg hmore)⟩
  all_goals
    replace hsat := hsat.trans (if_pos hlast)
    replace hslot := hslot.trans (if_pos hlast)
  case dirty => exact (congrArg Slot.txDirty hslot :)
  case slotFrame =>
    exact (congrArg (fun sl : Slot => { sl with txReq := (s.slot a).txReq, txDirty := (s.slot a).txDirty }) hslot :)
  case ends =>
    let x := s.sat a
    let t := w.reestCheck
    show match x.testCode with
      | some c => t.sat a = x.testEnded c ∧ (t.slot a).txReq = ⟨false, false, false⟩
      | none =>
        if x.stPhase = .srv then
          t.sat a = { x with stPhase := .cli, stCnt := BitVec.ofNat 16 s.cfg.selftestPhaseCycles }
            ∧ (t.slot a).txReq = ⟨false, true, false⟩
        else
          t.sat a = { x with stPhase := .wd, stCnt := BitVec.ofNat 16 s.cfg.selftestPhaseCycles }
            ∧ (t.slot a).txReq = ⟨false, false, true⟩
    have hreq : (t.slot a).txReq = if x.testCode.isSome then noRequests else x.stPhase.advanceRequests x.stPhase.requests := by
      rw [← hrequests a hp]
      exact (congrArg Slot.txReq hslot :)
    have hended : t.sat a = x.phaseEnded s.cfg.selftestPhaseCycles := hsat
    rw [Sat.phaseEnded] at hended
    cases hcode : x.testCode with
    | some c =>
      rw [hcode] at hreq hended
      exact ⟨hended, hreq⟩
    | none =>
      rw [hcode] at hreq hended
      have hphase := testCode_none hlast hrunning hcode
      rcases hphase with hsrv | hcli
      · rw [hsrv] at hreq hended
        exact (if_pos hsrv).mpr ⟨hended, hreq⟩
      · rw [hcli] at hreq hended
        have hne : x.stPhase ≠ .srv := fun hsrv => StPhase.noConfusion (hcli.symm.trans hsrv)
        exact (if_neg hne).mpr ⟨hended, hreq⟩

end SelftestStatement

/-! # PROCESS without a transport error (spec/42_scan_engine.md R157 to R166)

`ProcessedBelow` says what the visits of the first slots have made of the state; the counters are those of `route`
alone, whatever else a visit does. -/

namespace Sys2Proof.Machine

section RouteCongruence

variable {s t : State} (a : Nat) (errs : SatKind → Bool)

/-- All three errors of satellite `a`, routed. -/
def State.routeAll (s : State) (a : Nat) (errs : SatKind → Bool) : State :=
  s.route a (errs .rxcrc) (errs .remcrc) (errs .wd)

/-- Routing reads counters, test modes and parameters alone. -/
theorem routeAll_congr (hsats : t.sats = s.sats) (hlink : t.link = s.link)
    (htest : ∀ c j, t.testRoute c j = s.testRoute c j) :
    (t.routeAll a errs).sats = (s.routeAll a errs).sats ∧ (t.routeAll a errs).link = (s.routeAll a errs).link := by
  have hexplained : t.explained a = s.explained a := funext fun k => htest a k.testKind
  constructor
  · rw [State.routeAll, State.routeAll, route_eq_routeError, route_eq_routeError]
    simp only [routeError_sats, routeError_testRoute, hsats, htest]
  · rw [State.routeAll, State.routeAll, route_link, route_link, hlink, hexplained]

theorem routeAll_none (h : ∀ k, errs k = false) : s.routeAll a errs = s := by
  rw [State.routeAll, h, h, h]
  rfl

theorem routeAll_sats_length : (s.routeAll a errs).sats.length = s.sats.length := by
  rw [State.routeAll, route_eq_routeError]
  simp only [routeError_sats_length]

theorem routeAll_sat_of_ne {i : Nat} (h : i ≠ a) : (s.routeAll a errs).sat i = s.sat i := by
  rw [State.sat, State.routeAll, route_sats_of_ne s a errs h]
  rfl

/-- Of a satellite only counters change. -/
theorem routeAll_sat_frame (i : Nat) :
    { (s.routeAll a errs).sat i with cum := (s.sat i).cum, sec := (s.sat i).sec, test := (s.sat i).test }
      = s.sat i := by
  by_cases hia : i = a
  · subst hia
    by_cases hi : i < s.sats.length
    · rw [State.routeAll, route_sat s i errs hi]
      rfl
    · rw [sat_of_le (Nat.not_lt.mp hi), sat_of_le ((routeAll_sats_length i errs).symm ▸ Nat.not_lt.mp hi)]
  · rw [routeAll_sat_of_ne a errs hia]

theorem routeAll_frame (x : List Sat) (l : LinkRegs) :
    { s.routeAll a errs with sats := x, link := l } = { s with sats := x, link := l } :=
  congrArg (fun u : State => { u with sats := x, link := l }) (route_frame s a errs)

end RouteCongruence

section ReceivedFrames

variable (s : State) (i : Nat)

/-- The fields that slot `i` received in this cycle. -/
def State.received (s : State) (i : Nat) : WireFrame := unpack s.cfg.frameLayout (s.receivedFrame i)

/-- The errors that it tells of. -/
def State.receivedErrors (s : State) (i : Nat) : SatKind → Bool
  | .rxcrc => !crcOk s.cfg (s.receivedFrame i)
  | .remcrc => (s.received i).fbRemoteCrcError
  | .wd => (s.received i).fbWatchdogError

/-- The frame is bad (R158). -/
def State.receivedBad (s : State) (i : Nat) : Bool :=
  s.receivedErrors i .rxcrc || s.receivedErrors i .remcrc || s.receivedErrors i .wd

/-- The status that a bad frame latches. -/
def State.latchedStatus (s : State) (i : Nat) : Status :=
  (s.slot i).status.latch
    ⟨s.receivedErrors i .wd, s.receivedErrors i .remcrc, s.receivedErrors i .rxcrc, false, false, false⟩

/-- Slot `i` after PROCESS. -/
def State.processedSlot (s : State) (i : Nat) : Slot :=
  { s.slot i with
    rxBytes := s.receivedFrame i
    status := if s.receivedBad i then s.latchedStatus i else (s.slot i).status }

/-- The sensor byte has changed. -/
def State.sensorChanged (s : State) (i : Nat) : Bool :=
  decide ((s.received i).sensorValue ≠ sensorOf s.cfg (s.slot i).rxBytes)

/-- What the listener of slot `i` is told (R158, R159, R165, R166). -/
def State.processNotice (s : State) (i : Nat) : Option Event :=
  if s.satPresent i then
    if s.receivedBad i then some (.statusNotify i (s.latchedStatus i).bits)
    else if s.sensorChanged i = true ∧ (s.sat i).op = 0 then some (.sensorRaw i (s.received i).sensorValue)
    else none
  else none

/-- The errors of slot `i` counted, where a satellite exists. -/
def State.routedSlot (s : State) (i : Nat) : State :=
  if s.satPresent i then s.routeAll i (s.receivedErrors i) else s

theorem receivedErrors_of_good (h : s.receivedBad i = false) (k : SatKind) : s.receivedErrors i k = false := by
  simp only [State.receivedBad, Bool.or_eq_false_iff] at h
  obtain ⟨⟨hrx, hrem⟩, hwd⟩ := h
  cases k with
  | rxcrc => exact hrx
  | remcrc => exact hrem
  | wd => exact hwd

theorem routedSlot_of_good (h : s.receivedBad i = false) : s.routedSlot i = s := by
  rw [State.routedSlot, routeAll_none i _ (receivedErrors_of_good s i h), ite_self]

/-! ## The visit of one slot -/

/-- The received frame stored. -/
def State.frameStored (s : State) (i : Nat) : State :=
  s.modifySlot i fun sl => { sl with rxBytes := s.receivedFrame i }

/-- Its status latched. -/
def State.frameLatched (s : State) (i : Nat) : State :=
  (s.frameStored i).latchStatus i
    { Status.zero with
      watchdogError := s.receivedErrors i .wd
      remoteCrcError := s.receivedErrors i .remcrc
      rxCrcError := s.receivedErrors i .rxcrc }

theorem processSlot_of_bad (h : s.receivedBad i = true) :
    s.processSlot i =
      if s.satPresent i then ((s.frameLatched i).routeAll i (s.receivedErrors i)).notifyStatus i
      else s.frameLatched i :=
  if_pos h

theorem processSlot_of_good (h : s.receivedBad i = false) :
    s.processSlot i =
      if s.sensorChanged i && s.satWorking i then
        (s.frameStored i).emit (.sensorRaw i (s.received i).sensorValue)
      else s.frameStored i :=
  if_neg (Bool.eq_false_iff.mp h)

/-- The test modes stay, so an error is routed as before the visit. -/
theorem frameLatched_testRoute (c : Nat) (j : TestKind) : (s.frameLatched i).testRoute c j = s.testRoute c j := by
  have htm : ((s.frameLatched i).slot c).tm = (s.slot c).tm := by
    rw [State.frameLatched, State.latchStatus, slot_modifySlot, State.frameStored, slot_modifySlot]
    split <;> split <;> rfl
  simp only [State.testRoute, htm]
  rfl

theorem notifyStatus_frame (q : List Word) (o : Bool) :
    { s.notifyStatus i with evq := q, evOvf := o } = { s with evq := q, evOvf := o } := by
  unfold State.notifyStatus
  split
  · exact emit_frame s _ q o
  · rfl

theorem processSlot_frame (l : LinkRegs) (x : List Sat) (y : List Slot) (q : List Word) (o : Bool) :
    { s.processSlot i with link := l, sats := x, slots := y, evq := q, evOvf := o }
      = { s with link := l, sats := x, slots := y, evq := q, evOvf := o } := by
  cases hbad : s.receivedBad i with
  | true =>
    rw [processSlot_of_bad s i hbad]
    split
    · let u := (s.frameLatched i).routeAll i (s.receivedErrors i)
      have hnotify := notifyStatus_frame u i q o
      have hroute : { u with sats := x, link := l } = { s.frameLatched i with sats := x, link := l } :=
        routeAll_frame i (s.receivedErrors i) x l
      exact (congrArg (fun t : State => { t with link := l, sats := x, slots := y }) hnotify).trans
        (congrArg (fun t : State => { t with slots := y, evq := q, evOvf := o }) hroute :)
    · rfl
  | false =>
    rw [processSlot_of_good s i hbad]
    split
    · exact congrArg (fun t : State => { t with link := l, sats := x, slots := y }) (emit_frame (s.frameStored i) _ q o)
    · rfl

theorem processSlot_slots_eq :
    (s.processSlot i).slots = if s.receivedBad i then (s.frameLatched i).slots else (s.frameStored i).slots := by
  cases hbad : s.receivedBad i with
  | true =>
    rw [processSlot_of_bad s i hbad]
    split
    · rw [notifyStatus_slots]
      exact (congrArg State.slots (routeAll_frame (s := s.frameLatched i) i (s.receivedErrors i) [] s.link) :)
    · rfl
  | false =>
    rw [processSlot_of_good s i hbad]
    split
    · exact emit_slots _ _
    · rfl

theorem processSlot_slots_length : (s.processSlot i).slots.length = s.slots.length := by
  rw [processSlot_slots_eq]
  split
  · rw [State.frameLatched, State.latchStatus, modifySlot_length, State.frameStored, modifySlot_length]
  · rw [State.frameStored, modifySlot_length]

theorem frameStored_slot (j : Nat) :
    (s.frameStored i).slot j =
      if i = j ∧ j < s.slots.length then { s.slot j with rxBytes := s.receivedFrame i } else s.slot j :=
  slot_modifySlot s i j _

theorem frameLatched_slot (h : i < s.slots.length) :
    (s.frameLatched i).slot i = { s.slot i with rxBytes := s.receivedFrame i, status := s.latchedStatus i } := by
  have hstored : i < (s.frameStored i).slots.length := h.trans_eq (modifySlot_length s i _).symm
  have hslot : (s.frameStored i).slot i = { s.slot i with rxBytes := s.receivedFrame i } :=
    (frameStored_slot s i i).trans (if_pos ⟨rfl, h⟩)
  rw [State.frameLatched, State.latchStatus, slot_modifySlot, if_pos ⟨rfl, hstored⟩, hslot]
  rfl

theorem processSlot_slot (h : i < s.slots.length) (j : Nat) :
    (s.processSlot i).slot j = if i = j then s.processedSlot j else s.slot j := by
  have hslots := processSlot_slots_eq s i
  by_cases hij : i = j
  · subst hij
    rw [if_pos rfl, State.processedSlot]
    cases hbad : s.receivedBad i with
    | true =>
      rw [hbad] at hslots
      exact (slot_congr hslots i).trans (frameLatched_slot s i h)
    | false =>
      rw [hbad] at hslots
      exact (slot_congr hslots i).trans ((frameStored_slot s i i).trans (if_pos ⟨rfl, h⟩))
  · have hstored : (s.frameStored i).slot j = s.slot j := (frameStored_slot s i j).trans (if_neg fun hc => hij hc.1)
    rw [if_neg hij]
    cases hbad : s.receivedBad i with
    | true =>
      rw [hbad] at hslots
      have hlatched : (s.frameLatched i).slot j = (s.frameStored i).slot j := by
        rw [State.frameLatched, State.latchStatus, slot_modifySlot, if_neg fun hc => hij hc.1]
      exact (slot_congr hslots j).trans (hlatched.trans hstored)
    | false =>
      rw [hbad] at hslots
      exact (slot_congr hslots j).trans hstored

/-- A visit counts what `route` counts. -/
theorem processSlot_counters :
    (s.processSlot i).sats = (s.routedSlot i).sats ∧ (s.processSlot i).link = (s.routedSlot i).link := by
  cases hbad : s.receivedBad i with
  | true =>
    rw [processSlot_of_bad s i hbad, State.routedSlot]
    by_cases hp : s.satPresent i = true
    · let u := (s.frameLatched i).routeAll i (s.receivedErrors i)
      have hnotify := notifyStatus_frame u i s.evq s.evOvf
      have hroute := routeAll_congr (s := s) (t := s.frameLatched i) i (s.receivedErrors i) rfl rfl
        (frameLatched_testRoute s i)
      rw [if_pos hp, if_pos hp]
      exact ⟨(congrArg State.sats hnotify :).trans hroute.1, (congrArg State.link hnotify :).trans hroute.2⟩
    · rw [if_neg hp, if_neg hp]
      exact ⟨rfl, rfl⟩
  | false =>
    rw [processSlot_of_good s i hbad, routedSlot_of_good s i hbad]
    split
    · exact ⟨emit_sats _ _, emit_link _ _⟩
    · exact ⟨rfl, rfl⟩

theorem processSlot_queue (h : i < s.slots.length) :
    (s.processSlot i).queue = (s.emitAll (s.processNotice i).toList).queue := by
  rw [State.processNotice]
  cases hbad : s.receivedBad i with
  | true =>
    rw [processSlot_of_bad s i hbad, if_pos rfl]
    by_cases hp : s.satPresent i = true
    · let u := (s.frameLatched i).routeAll i (s.receivedErrors i)
      have hframe := routeAll_frame (s := s.frameLatched i) i (s.receivedErrors i) s.sats s.link
      have hcfg : u.cfg = s.cfg := (congrArg State.cfg hframe :)
      have hslots : u.slots = (s.frameLatched i).slots := (congrArg State.slots hframe :)
      have hpresent : u.satPresent i = true := by
        have hsat := routeAll_sat_frame (s := s.frameLatched i) i (s.receivedErrors i) i
        rw [← hp, State.satPresent, State.satPresent, hcfg]
        exact congrArg (decide (i < s.cfg.maxSats) && ·) (congrArg Sat.present hsat :)
      have hstatus : (u.slot i).status = s.latchedStatus i := by
        rw [slot_congr hslots, frameLatched_slot s i h]
      rw [if_pos hp, if_pos hp]
      show (u.notifyStatus i).queue = _
      rw [State.notifyStatus, if_pos hpresent, hstatus]
      exact emit_queue_congr hcfg (queue_eq_iff.mpr
        ⟨(congrArg State.evq hframe :), (congrArg State.evOvf hframe :)⟩) _
    · rw [if_neg hp, if_neg hp]
      rfl
  | false =>
    rw [processSlot_of_good s i hbad, State.satWorking]
    by_cases hp : s.satPresent i = true
    · by_cases htells : s.sensorChanged i = true ∧ (s.sat i).op = 0
      · rw [if_pos hp, if_neg Bool.false_ne_true, if_pos htells, hp, htells.1, htells.2]
        exact emit_queue_congr (s := s) (t := s.frameStored i) rfl rfl _
      · have hsilent : ¬ (s.sensorChanged i && (s.satPresent i && decide ((s.sat i).op = 0))) = true := by
          simpa [hp] using htells
        rw [if_neg hsilent, if_pos hp, if_neg Bool.false_ne_true, if_neg htells]
        rfl
    · rw [Bool.eq_false_iff.mpr hp, Bool.false_and, Bool.and_false]
      rfl

end ReceivedFrames

section AllSlots

/-! ## The visits of the first slots -/

/-- The errors of the satellites below `n` counted, in ascending order. -/
def State.routedBelow (s : State) (n : Nat) : State :=
  ((List.range n).filter fun i => s.satPresent i).foldl (fun u i => u.routeAll i (s.receivedErrors i)) s

variable (s : State) (n : Nat)

theorem routedBelow_frame (x : List Sat) (l : LinkRegs) :
    { s.routedBelow n with sats := x, link := l } = { s with sats := x, link := l } :=
  foldl_induct s (P := fun t => { t with sats := x, link := l } = { s with sats := x, link := l }) _
    (fun a _ t ht => (routeAll_frame (s := t) a (s.receivedErrors a) x l).trans ht) rfl

theorem routedBelow_sat_frame (i : Nat) :
    { (s.routedBelow n).sat i with cum := (s.sat i).cum, sec := (s.sat i).sec, test := (s.sat i).test } = s.sat i :=
  foldl_induct s (P := fun t =>
      { t.sat i with cum := (s.sat i).cum, sec := (s.sat i).sec, test := (s.sat i).test } = s.sat i) _
    (fun a _ t ht => (congrArg (fun x : Sat =>
      { x with cum := (s.sat i).cum, sec := (s.sat i).sec, test := (s.sat i).test })
      (routeAll_sat_frame (s := t) a (s.receivedErrors a) i)).trans ht) rfl

theorem routedBelow_sat_of_good (i : Nat) (h : ¬ (i < n ∧ s.satPresent i = true ∧ s.receivedBad i = true)) :
    (s.routedBelow n).sat i = s.sat i := by
  refine foldl_induct s (P := fun t => t.sat i = s.sat i) _ (fun a ha t ht => ?_) rfl
  obtain ⟨hrange, hp⟩ := List.mem_filter.mp ha
  by_cases hia : i = a
  · subst hia
    have hgood : s.receivedBad i = false :=
      Bool.eq_false_iff.mpr fun hbad => h ⟨List.mem_range.mp hrange, hp, hbad⟩
    rw [routeAll_none i _ (receivedErrors_of_good s i hgood)]
    exact ht
  · rw [routeAll_sat_of_ne a _ hia]
    exact ht

theorem routedBelow_succ :
    s.routedBelow (n + 1) =
      if s.satPresent n then (s.routedBelow n).routeAll n (s.receivedErrors n) else s.routedBelow n := by
  unfold State.routedBelow
  rw [List.range_succ, List.filter_append, List.foldl_append]
  cases hp : s.satPresent n with
  | true => simp [hp]
  | false => simp [hp]

theorem routedBelow_testRoute (c : Nat) (j : TestKind) : (s.routedBelow n).testRoute c j = s.testRoute c j := by
  have hframe := routedBelow_frame s n [] s.link
  have hslots : (s.routedBelow n).slots = s.slots := (congrArg State.slots hframe :)
  have hcfg : (s.routedBelow n).cfg = s.cfg := (congrArg State.cfg hframe :)
  simp only [State.testRoute, slot_congr hslots, hcfg]

/-- The CLOCK and BUS agents' answers decide no count. -/
theorem routedBelow_setEnv (e : Env) :
    ((s.setEnv e).routedBelow n).sats = (s.routedBelow n).sats
      ∧ ((s.setEnv e).routedBelow n).link = (s.routedBelow n).link := by
  induction n with
  | zero => exact ⟨rfl, rfl⟩
  | succ n ih =>
    have htest (c : Nat) (j : TestKind) :
        ((s.setEnv e).routedBelow n).testRoute c j = (s.routedBelow n).testRoute c j :=
      (routedBelow_testRoute (s.setEnv e) n c j).trans (routedBelow_testRoute s n c j).symm
    have hroute := routeAll_congr n (s.receivedErrors n) ih.1 ih.2 htest
    rw [routedBelow_succ, routedBelow_succ]
    by_cases hp : s.satPresent n = true
    · have hp' : (s.setEnv e).satPresent n = true := hp
      rw [if_pos hp', if_pos hp]
      exact hroute
    · have hp' : ¬ (s.setEnv e).satPresent n = true := hp
      rw [if_neg hp', if_neg hp]
      exact ih

/-- What the visits of the slots below `n` make of `s`. -/
structure ProcessedBelow (s : State) (n : Nat) (t : State) : Prop where
  frame : { t with link := s.link, sats := s.sats, slots := s.slots, evq := s.evq, evOvf := s.evOvf } = s
  slotsLength : t.slots.length = s.slots.length
  slot : ∀ i, t.slot i = if i < n then s.processedSlot i else s.slot i
  sats : t.sats = (s.routedBelow n).sats
  link : t.link = (s.routedBelow n).link
  queue : t.queue = (s.emitAll ((List.range n).filterMap s.processNotice)).queue

variable {s n} {t : State}

theorem processedBelow_zero (s : State) : ProcessedBelow s 0 s := ⟨rfl, rfl, fun _ => rfl, rfl, rfl, rfl⟩

section Visit

variable (h : ProcessedBelow s n t)
include h

theorem ProcessedBelow.cfg : t.cfg = s.cfg := (congrArg State.cfg h.frame :)

theorem ProcessedBelow.receivedFrame (i : Nat) : t.receivedFrame i = s.receivedFrame i := by
  have hcyc : t.cyc = s.cyc := (congrArg State.cyc h.frame :)
  rw [State.receivedFrame, State.receivedFrame, hcyc]

theorem ProcessedBelow.received (i : Nat) : t.received i = s.received i := by
  rw [State.received, State.received, h.receivedFrame, h.cfg]

theorem ProcessedBelow.receivedErrors (i : Nat) : t.receivedErrors i = s.receivedErrors i := by
  funext k
  cases k with
  | rxcrc => rw [State.receivedErrors, State.receivedErrors, h.receivedFrame, h.cfg]
  | remcrc => rw [State.receivedErrors, State.receivedErrors, h.received]
  | wd => rw [State.receivedErrors, State.receivedErrors, h.received]

theorem ProcessedBelow.receivedBad (i : Nat) : t.receivedBad i = s.receivedBad i := by
  rw [State.receivedBad, State.receivedBad, h.receivedErrors]

theorem ProcessedBelow.sat_frame (i : Nat) :
    { t.sat i with cum := (s.sat i).cum, sec := (s.sat i).sec, test := (s.sat i).test } = s.sat i := by
  rw [sat_congr h.sats]
  exact routedBelow_sat_frame s n i

theorem ProcessedBelow.satPresent (i : Nat) : t.satPresent i = s.satPresent i := by
  rw [State.satPresent, State.satPresent, h.cfg]
  exact congrArg (decide (i < s.cfg.maxSats) && ·) (congrArg Sat.present (h.sat_frame i) :)

theorem ProcessedBelow.slot_at : t.slot n = s.slot n := (h.slot n).trans (if_neg (Nat.lt_irrefl n))

theorem ProcessedBelow.latchedStatus : t.latchedStatus n = s.latchedStatus n := by
  rw [State.latchedStatus, State.latchedStatus, h.slot_at, h.receivedErrors]

theorem ProcessedBelow.processedSlot : t.processedSlot n = s.processedSlot n := by
  rw [State.processedSlot, State.processedSlot, h.slot_at, h.receivedFrame, h.receivedBad, h.latchedStatus]

theorem ProcessedBelow.processNotice : t.processNotice n = s.processNotice n := by
  have hop : (t.sat n).op = (s.sat n).op := (congrArg Sat.op (h.sat_frame n) :)
  have hchanged : t.sensorChanged n = s.sensorChanged n := by
    rw [State.sensorChanged, State.sensorChanged, h.received, h.cfg, h.slot_at]
  rw [State.processNotice, State.processNotice, h.satPresent, h.receivedBad, h.latchedStatus, hchanged, hop, h.received]

theorem ProcessedBelow.testRoute (c : Nat) (j : TestKind) : t.testRoute c j = (s.routedBelow n).testRoute c j := by
  have htm : (t.slot c).tm = (s.slot c).tm := by
    rw [h.slot]
    split <;> rfl
  rw [routedBelow_testRoute]
  simp only [State.testRoute, htm, h.cfg]

theorem processedBelow_succ (hn : n < s.slots.length) : ProcessedBelow s (n + 1) (t.processSlot n) := by
  have hcounters : (t.routedSlot n).sats = (s.routedBelow (n + 1)).sats
      ∧ (t.routedSlot n).link = (s.routedBelow (n + 1)).link := by
    rw [State.routedSlot, routedBelow_succ, h.satPresent, h.receivedErrors]
    split
    · exact routeAll_congr n _ h.sats h.link h.testRoute
    · exact ⟨h.sats, h.link⟩
  obtain ⟨hsats, hlink⟩ := processSlot_counters t n
  have hlen : n < t.slots.length := h.slotsLength.symm ▸ hn
  refine ⟨?frame, ?length, fun i => ?slot, hsats.trans hcounters.1, hlink.trans hcounters.2, ?queue⟩
  case frame => rw [processSlot_frame, h.frame]
  case length => rw [processSlot_slots_length, h.slotsLength]
  case slot =>
    rw [processSlot_slot t n hlen, h.slot]
    rcases Nat.lt_trichotomy i n with hlt | rfl | hgt
    · rw [if_neg (by omega), if_pos hlt, if_pos (by omega)]
    · rw [if_pos rfl, if_pos (by omega), h.processedSlot]
    · rw [if_neg (by omega), if_neg (by omega), if_neg (by omega)]
  case queue =>
    have hlist : [n].filterMap s.processNotice = (s.processNotice n).toList := by
      rw [List.filterMap_cons]
      cases s.processNotice n <;> rfl
    rw [processSlot_queue t n hlen, h.processNotice, List.range_succ, List.filterMap_append, hlist, emitAll_append]
    exact emitAll_queue_congr (h.cfg.trans (emitAll_cfg s _).symm) h.queue _

end Visit

theorem processedBelow_foldl (s : State) (hn : n ≤ s.slots.length) :
    ProcessedBelow s n ((List.range n).foldl (fun t i => t.processSlot i) s) := by
  induction n with
  | zero => exact processedBelow_zero s
  | succ n ih =>
    rw [List.range_succ, List.foldl_append]
    exact processedBelow_succ (ih (Nat.le_of_succ_le hn)) hn

theorem scanProcess_of_no_transportError (hsym : s.cyc.sym = false) (hsize : s.cyc.size = false) :
    s.scanProcess = ((List.range s.activeSlots).foldl (fun t i => t.processSlot i) s).setPhase .budget := by
  rw [State.scanProcess, hsym, hsize]
  rfl

end AllSlots

end Sys2Proof.Machine

section ProcessStatement

open Sys2Proof Sys2Proof.Machine

/-- Settles O40. -/
theorem processDecodesEveryActiveSlot : Obligations.ProcessDecodesEveryActiveSlot := by
  intro s hshape hactive hinput hphase hsym hsize
  let u := s.setEnv s.inputTaken.env
  have hstep : step s = .next u.scanProcess := by rw [step_process hinput hphase, inputTaken_setEnv]
  rw [scanProcess_of_no_transportError (s := u) hsym hsize] at hstep
  have h : ProcessedBelow u s.activeSlots ((List.range u.activeSlots).foldl (fun t i => t.processSlot i) u) :=
    processedBelow_foldl u hactive
  generalize (List.range u.activeSlots).foldl (fun t i => t.processSlot i) u = v at hstep h
  have hcounters := routedBelow_setEnv s s.activeSlots s.inputTaken.env
  refine ⟨_, hstep, h.slot, h.slotsLength, ?counters, fun i hnot => ?others, h.sat_frame, ?queue,
    (congrArg State.env h.frame :), ?frame⟩
  case counters => exact ⟨h.sats.trans hcounters.1, h.link.trans hcounters.2⟩
  case others => exact (sat_congr h.sats i).trans (routedBelow_sat_of_good u u.activeSlots i hnot)
  case queue =>
    have hemit := emitAll_queue_congr (s := s) (t := u) rfl rfl ((List.range s.activeSlots).filterMap s.processNotice)
    exact queue_eq_iff.mp (h.queue.trans hemit)
  case frame =>
    exact (congrArg (fun t : State => { t with scanPhase := s.scanPhase, env := s.env }) h.frame :)

end ProcessStatement

/-! # BUDGET (spec/42_scan_engine.md R167 to R172)

`lateJudged` and `earlyJudged` are the state after the low and after the high checks, each written with the checks of
the start: what the high checks set leaves the low checks alone, since low < high. -/

namespace Sys2Proof.Machine

section CheckedWalk

variable (s : State)

/-- A walk that visits the satellites that pass a check visits those that pass it at its start. -/
theorem forEachSat_checked {f g : Nat → State → State} {c : Nat → Sat → Bool} (hl : ∀ a t, Local a t (f a t))
    (hg : ∀ a t, g a t = if c a (t.sat a) then f a t else t) :
    s.forEachSat g = (s.children.filter fun a => c a (s.sat a)).foldl (fun t a => f a t) s := by
  unfold State.forEachSat State.children
  have hn : s.addresses.Nodup := List.nodup_range
  generalize s.addresses = l at hn
  rw [List.filter_filter]
  induction l generalizing s with
  | nil => rfl
  | cons b l ih =>
    obtain ⟨hb, hn⟩ := List.nodup_cons.mp hn
    rw [List.foldl_cons]
    by_cases hvisit : (c b (s.sat b) && s.satPresent b) = true
    · have hchecks : (l.filter fun a => c a ((f b s).sat a) && (f b s).satPresent a)
          = l.filter fun a => c a (s.sat a) && s.satPresent a :=
        List.filter_congr fun a ha => by
          have hat := (hl b s).other a fun h => hb (h ▸ ha)
          rw [sat_of_at hat, satPresent_of_at (hl b s).cfg hat]
      obtain ⟨hcb, hp⟩ := Bool.and_eq_true_iff.mp hvisit
      rw [if_pos hp, hg, if_pos hcb,
        List.filter_cons_of_pos (p := fun a => c a (s.sat a) && s.satPresent a) hvisit, List.foldl_cons, ih _ hn, hchecks]
    · have hskipped : (if s.satPresent b = true then g b s else s) = s := by
        rw [hg]
        split <;> [split; rfl]
        · rename_i hp hcb
          exact absurd (Bool.and_eq_true_iff.mpr ⟨hcb, hp⟩) hvisit
        · rfl
      rw [hskipped, List.filter_cons_of_neg (p := fun a => c a (s.sat a) && s.satPresent a) hvisit, ih s hn]

theorem sat_mem {a : Nat} (h : a < s.sats.length) : s.sat a ∈ s.sats := by
  rw [State.sat, List.getElem?_eq_getElem h]
  exact List.getElem_mem h

theorem mem_children (a : Nat) : a ∈ s.children ↔ s.satPresent a = true :=
  List.mem_filter.trans ⟨fun h => h.2, fun h => ⟨List.mem_range.mpr (present_lt h).1, h⟩⟩

/-- What visits of the satellites that pass a check leave of each satellite. -/
theorem foldl_checked_sat {f : Nat → State → State} {F : Sat → Sat} (c : Nat → Bool) {v : State}
    (hl : ∀ a t, Local a t (f a t)) (hlen : ∀ a t, (f a t).sats.length = t.sats.length)
    (hf : ∀ a t, a < t.sats.length → (f a t).sat a = F (t.sat a)) (hv : v.sats.length = s.sats.length) (a : Nat) :
    ((s.children.filter c).foldl (fun t a => f a t) v).sat a =
      if s.satPresent a = true ∧ c a = true then F (v.sat a) else v.sat a := by
  have hvisit := foldl_at v (P := fun t => t.sats.length = s.sats.length) hl (fun a t ht => (hlen a t).trans ht)
    (s.children.filter c) ((List.nodup_range.filter _).filter _) hv a
  have hmem : a ∈ s.children.filter c ↔ s.satPresent a = true ∧ c a = true :=
    List.mem_filter.trans (and_congr_left fun _ => mem_children s a)
  by_cases hc : s.satPresent a = true ∧ c a = true
  · rw [if_pos (hmem.mpr hc)] at hvisit
    obtain ⟨u, hu, hat, hres⟩ := hvisit
    rw [if_pos hc, ← sat_of_at hat, sat_of_at hres]
    exact hf a u (hu ▸ (present_lt hc.1).2)
  · rw [if_neg fun hm => hc (hmem.mp hm)] at hvisit
    rw [if_neg hc, sat_of_at hvisit]

end CheckedWalk

section ShapeKept

variable {s t : State}

theorem OpChange.shape (h : OpChange s t) (hs : s.Shape) : t.Shape where
  legal := h.cfg ▸ hs.legal
  slots := by rw [h.slotsLength, h.cfg, hs.slots]
  sats := by rw [h.satsLength, h.cfg, hs.sats]
  scanInterval := by rw [h.conf, h.cfg, hs.scanInterval]
  maxSats := by rw [h.conf, h.cfg, hs.maxSats]
  linkAddr := by rw [h.conf, h.cfg, hs.linkAddr]
  line := by rw [h.line, h.cfg, hs.line]

end ShapeKept

section ErrorSecond

variable {op : OpState}

theorem hasBit_or_self {flag : OpState} (h : flag ≠ 0) : hasBit (op ||| flag) flag = true := by
  have hself : (op ||| flag) &&& flag = flag := by
    ext i hi
    rw [BitVec.getElem_and, BitVec.getElem_or]
    cases op[i] <;> cases flag[i] <;> rfl
  rw [hasBit, hself, decide_eq_true h]

theorem hasBit_andNot_self {flag : OpState} : hasBit (op &&& ~~~flag) flag = false := by
  have hnone : op &&& ~~~flag &&& flag = 0 := by
    ext i hi
    simp
  rw [hasBit, hnone]
  rfl

theorem hasBit_errorSecond_or_controlBlocked :
    hasBit (op ||| opControlBlocked) opErrorSecond = hasBit op opErrorSecond :=
  hasBit_of_and_eq (or_and_of_outside (by decide))

theorem hasBit_errorSecond_andNot_controlBlocked :
    hasBit (op &&& ~~~opControlBlocked) opErrorSecond = hasBit op opErrorSecond :=
  hasBit_of_and_eq (andNot_and_of_outside (by decide))

/-- A satellite with the flag set. -/
def Sat.raised (flag : OpState) (x : Sat) : Sat := { x with op := x.op ||| flag }

/-- A satellite with the flag cleared, its counters reset if that makes it WORKING (R213). -/
def Sat.freed (flag : OpState) (x : Sat) : Sat :=
  if x.op ≠ 0 ∧ x.op &&& ~~~flag = 0 then
    { x with op := 0, cum := SatCounters.zero, sec := SatCounters.zero, test := TestCounters.zero }
  else { x with op := x.op &&& ~~~flag }

theorem freed_op (flag : OpState) (x : Sat) : (x.freed flag).op = x.op &&& ~~~flag := by
  unfold Sat.freed
  split
  · rename_i hw
    exact hw.2.symm
  · rfl

end ErrorSecond

section Judgements

variable (s : State)

/-- R167: t5 read. -/
def State.clockRead (s : State) : State := s.tick.setTime { s.time with t5 := s.tick.env.clock }

/-- A one-second boundary (R169). -/
abbrev State.atBoundary (s : State) : Prop := s.time.secBase + 1000 ≤ s.tick.env.clock

/-- The Link's high check passes (R167). -/
abbrev State.linkOver (s : State) : Prop :=
  hasBit s.link.op opErrorSecond = false ∧ s.link.thresHigh.toNat ≤ s.link.sec.sum

/-- The Link's low check passes (R170). -/
abbrev State.linkUnder (s : State) : Prop :=
  hasBit s.link.op opErrorSecond = true ∧ s.link.sec.sum ≤ s.link.thresLow.toNat

/-- Satellite `a`'s high check (R168). -/
def State.satOver (s : State) (a : Nat) : Bool :=
  !hasBit (s.sat a).op opErrorSecond && decide ((s.sat a).thresHigh.toNat ≤ (s.sat a).sec.sum)

/-- Satellite `a`'s low check (R170). -/
def State.satUnder (s : State) (a : Nat) : Bool :=
  hasBit (s.sat a).op opErrorSecond && decide ((s.sat a).sec.sum ≤ (s.sat a).thresLow.toNat)

def State.linkHighJudged (s : State) : State :=
  if s.linkOver then s.clockRead.opBlock .link opErrorSecond else s.clockRead

def State.highJudged (s : State) : State :=
  (s.children.filter s.satOver).foldl (fun u a => u.opBlock (.sat a) opErrorSecond) s.linkHighJudged

def State.linkLowJudged (s : State) : State :=
  if s.linkUnder then s.highJudged.opDeBlock .link opErrorSecond else s.highJudged

def State.lowJudged (s : State) : State :=
  (s.children.filter s.satUnder).foldl (fun u a => u.opDeBlock (.sat a) opErrorSecond) s.linkLowJudged

theorem clockRead_frame (r : TimeRegs) (e : Env) :
    { s.clockRead with time := r, env := e } = { s with time := r, env := e } :=
  congrArg (fun u : State => { u with time := r }) (tick_frame s e)

theorem clockRead_link : s.clockRead.link = s.link := (congrArg State.link (clockRead_frame s s.time s.env) :)
theorem clockRead_sats : s.clockRead.sats = s.sats := (congrArg State.sats (clockRead_frame s s.time s.env) :)
theorem clockRead_cfg : s.clockRead.cfg = s.cfg := (congrArg State.cfg (clockRead_frame s s.time s.env) :)
theorem clockRead_reest : s.clockRead.reest = s.reest := (congrArg State.reest (clockRead_frame s s.time s.env) :)
theorem clockRead_sat (a : Nat) : s.clockRead.sat a = s.sat a := sat_congr (clockRead_sats s) a

theorem clockRead_time : s.clockRead.time = { s.time with t5 := s.tick.env.clock } := rfl

/-! ## The high checks -/

theorem linkHighJudged_change : OpChange s.clockRead s.linkHighJudged :=
  .ite ((OpChange.refl _).opBlock _ _) (.refl _)

theorem highJudged_change : OpChange s.clockRead s.highJudged :=
  foldl_induct s.linkHighJudged _ (fun _ _ _ ht => ht.opBlock _ _) (linkHighJudged_change s)

theorem linkHighJudged_link :
    s.linkHighJudged.link = if s.linkOver then { s.link with op := s.link.op ||| opErrorSecond } else s.link := by
  unfold State.linkHighJudged
  split
  · rw [opBlock_link_link, clockRead_link]
  · exact clockRead_link s

theorem highJudged_link : s.highJudged.link = s.linkHighJudged.link :=
  foldl_induct s.linkHighJudged (P := fun t => t.link = s.linkHighJudged.link) _
    (fun a _ t ht => (blockOne_sat_link t a _).trans ht) rfl

theorem clockRead_shape (h : s.Shape) : s.clockRead.Shape :=
  { ((OpChange.refl s).tick).shape h with }

theorem linkHighJudged_sat (h : s.Shape) (a : Nat) :
    s.linkHighJudged.sat a =
      if s.linkOver ∧ s.link.op = 0 ∧ s.satPresent a = true then
        { s.sat a with op := (s.sat a).op ||| opControlBlocked }
      else s.sat a := by
  unfold State.linkHighJudged
  by_cases hover : s.linkOver
  · rw [if_pos hover, opBlock_link_sat _ _ (clockRead_shape s h), clockRead_sat, clockRead_link,
      satPresent_congr (clockRead_cfg s) (clockRead_sats s)]
    exact if_congr ⟨fun hc => ⟨hover, hc⟩, fun hc => hc.2⟩ rfl rfl
  · rw [if_neg hover, if_neg fun hc => hover hc.1, clockRead_sat]

/-- A satellite that passes its high check has the bit set, on what the Link's check made of it. -/
theorem highJudged_sat (a : Nat) :
    s.highJudged.sat a =
      if s.satPresent a = true ∧ s.satOver a = true then (s.linkHighJudged.sat a).raised opErrorSecond
      else s.linkHighJudged.sat a :=
  foldl_checked_sat s s.satOver (F := Sat.raised opErrorSecond) (fun a u => blockOne_local u a opErrorSecond)
    (fun a u => blockOne_sats_length u (.sat a) _) (fun a u hu => blockOne_sat u a _ hu)
    ((linkHighJudged_change s).satsLength.trans (congrArg List.length (clockRead_sats s))) a

theorem linkHighJudged_hasBit (h : s.Shape) (a : Nat) :
    hasBit (s.linkHighJudged.sat a).op opErrorSecond = hasBit (s.sat a).op opErrorSecond := by
  rw [linkHighJudged_sat s h]
  split
  · exact hasBit_errorSecond_or_controlBlocked
  · rfl

theorem highJudged_hasBit (h : s.Shape) {a : Nat} (hp : s.satPresent a = true) :
    hasBit (s.highJudged.sat a).op opErrorSecond = (hasBit (s.sat a).op opErrorSecond || s.satOver a) := by
  rw [highJudged_sat]
  cases hover : s.satOver a with
  | true =>
    rw [if_pos ⟨hp, rfl⟩, Bool.or_true]
    exact hasBit_or_self (by decide)
  | false => rw [if_neg fun hc => Bool.false_ne_true hc.2, Bool.or_false, linkHighJudged_hasBit s h]

theorem highJudged_satPresent (a : Nat) : s.highJudged.satPresent a = s.satPresent a :=
  ((highJudged_change s).satPresent a).trans (satPresent_congr (clockRead_cfg s) (clockRead_sats s) a)

theorem highJudged_shape (h : s.Shape) : s.highJudged.Shape := (highJudged_change s).shape (clockRead_shape s h)

/-! ## The low checks -/

theorem linkLowJudged_change : OpChange s.highJudged s.linkLowJudged := .ite ((OpChange.refl _).opDeBlock _ _) (.refl _)

theorem lowJudged_change : OpChange s.highJudged s.lowJudged :=
  foldl_induct s.linkLowJudged _ (fun _ _ _ ht => ht.opDeBlock _ _) (linkLowJudged_change s)

theorem linkLowJudged_hasBit (h : s.Shape) (a : Nat) :
    hasBit (s.linkLowJudged.sat a).op opErrorSecond = hasBit (s.highJudged.sat a).op opErrorSecond := by
  unfold State.linkLowJudged
  split
  · rw [opDeBlock_link_sat _ _ (highJudged_shape s h)]
    split
    · split
      · rename_i hw
        rw [← hasBit_errorSecond_andNot_controlBlocked (op := (s.highJudged.sat a).op), hw.2]
      · exact hasBit_errorSecond_andNot_controlBlocked
    · rfl
  · rfl

theorem lowJudged_sat (a : Nat) :
    s.lowJudged.sat a =
      if s.satPresent a = true ∧ s.satUnder a = true then (s.linkLowJudged.sat a).freed opErrorSecond
      else s.linkLowJudged.sat a :=
  foldl_checked_sat s s.satUnder (F := Sat.freed opErrorSecond) (fun a u => deblockSat_local u a opErrorSecond)
    (fun a u => ((OpChange.refl u).deblockSat a _).satsLength) (fun a u hu => deblockSat_sat_cases u _ a hu)
    ((linkLowJudged_change s).satsLength.trans ((highJudged_change s).satsLength.trans
      (congrArg List.length (clockRead_sats s)))) a

theorem lowJudged_hasBit (h : s.Shape) {a : Nat} (hp : s.satPresent a = true) :
    hasBit (s.lowJudged.sat a).op opErrorSecond =
      ((hasBit (s.sat a).op opErrorSecond || s.satOver a) && !s.satUnder a) := by
  rw [lowJudged_sat]
  cases hunder : s.satUnder a with
  | true =>
    rw [if_pos ⟨hp, rfl⟩, Bool.not_true, Bool.and_false, freed_op, hasBit_andNot_self]
  | false =>
    rw [if_neg fun hc => Bool.false_ne_true hc.2, linkLowJudged_hasBit s h, highJudged_hasBit s h hp, Bool.not_false,
      Bool.and_true]

theorem linkHighJudged_hasBit_link :
    hasBit s.linkHighJudged.link.op opErrorSecond =
      (hasBit s.link.op opErrorSecond || decide (s.link.thresHigh.toNat ≤ s.link.sec.sum)) := by
  rw [linkHighJudged_link]
  by_cases hover : s.linkOver
  · rw [if_pos hover, hasBit_or_self (by decide), decide_eq_true hover.2, Bool.or_true]
  · rw [if_neg hover]
    cases hbit : hasBit s.link.op opErrorSecond with
    | true => rfl
    | false => rw [decide_eq_false fun hsum => hover ⟨hbit, hsum⟩, Bool.or_false]

theorem lowJudged_link : s.lowJudged.link = s.linkLowJudged.link :=
  foldl_induct s.linkLowJudged (P := fun t => t.link = s.linkLowJudged.link) _
    (fun a _ t ht => (deblockSat_link t a _).trans ht) rfl

theorem lowJudged_hasBit_link :
    hasBit s.lowJudged.link.op opErrorSecond =
      (hasBit s.linkHighJudged.link.op opErrorSecond
        && !(hasBit s.link.op opErrorSecond && decide (s.link.sec.sum ≤ s.link.thresLow.toNat))) := by
  have hcheck : (hasBit s.link.op opErrorSecond && decide (s.link.sec.sum ≤ s.link.thresLow.toNat))
      = decide s.linkUnder := by
    rw [Bool.decide_and, Bool.decide_eq_true]
  rw [lowJudged_link, State.linkLowJudged, hcheck]
  by_cases hunder : s.linkUnder
  · rw [if_pos hunder, opDeBlock_link_link, decide_eq_true hunder, Bool.not_true, Bool.and_false]
    exact hasBit_andNot_self
  · rw [if_neg hunder, highJudged_link, decide_eq_false hunder, Bool.not_false, Bool.and_true]

/-- Only the Link's high check arms the timer, which takes a clock read of its own (log 20). -/
theorem highJudged_reest_env :
    s.highJudged.reest = s.linkHighJudged.reest ∧ s.highJudged.env = s.linkHighJudged.env :=
  foldl_induct s.linkHighJudged
    (P := fun t => t.reest = s.linkHighJudged.reest ∧ t.env = s.linkHighJudged.env) _
    (fun a _ t ht => ⟨(congrArg State.reest (blockOne_sat_frame t a opErrorSecond) :).trans ht.1,
      (congrArg State.env (blockOne_sat_frame t a opErrorSecond) :).trans ht.2⟩) ⟨rfl, rfl⟩

theorem linkLowJudged_reest_env :
    s.linkLowJudged.reest = s.linkHighJudged.reest ∧ s.linkLowJudged.env = s.linkHighJudged.env := by
  unfold State.linkLowJudged
  split
  · have hframe := opDeBlock_link_frame s.highJudged opErrorSecond s.link s.sats s.slots s.evq s.evOvf
    exact ⟨(congrArg State.reest hframe :).trans (highJudged_reest_env s).1,
      (congrArg State.env hframe :).trans (highJudged_reest_env s).2⟩
  · exact highJudged_reest_env s

theorem lowJudged_reest_env :
    s.lowJudged.reest = s.linkHighJudged.reest ∧ s.lowJudged.env = s.linkHighJudged.env :=
  foldl_induct s.linkLowJudged
    (P := fun t => t.reest = s.linkHighJudged.reest ∧ t.env = s.linkHighJudged.env) _
    (fun a _ t ht => ⟨(congrArg State.reest (deblockSat_frame t a opErrorSecond) :).trans ht.1,
      (congrArg State.env (deblockSat_frame t a opErrorSecond) :).trans ht.2⟩) (linkLowJudged_reest_env s)

theorem linkHighJudged_reest :
    s.linkHighJudged.reest =
      if s.linkOver then ⟨true, s.linkHighJudged.env.clock + s.cfg.tReestablishMs⟩ else s.reest := by
  unfold State.linkHighJudged
  split
  · obtain ⟨henv, hreest⟩ := opBlock_link_armed s.clockRead opErrorSecond (by decide)
    rw [hreest, henv, clockRead_cfg]
  · exact clockRead_reest s

/-! ## BUDGET as the two rounds of checks -/

theorem children_congr {s t : State} (hcfg : t.cfg = s.cfg) (h : ∀ a, t.satPresent a = s.satPresent a) :
    t.children = s.children := by
  rw [State.children, State.children, State.addresses, State.addresses, hcfg]
  exact List.filter_congr fun a _ => h a

theorem linkHighCheck_clockRead : s.clockRead.linkHighCheck s.link.sec.sum = s.linkHighJudged := by
  rw [State.linkHighCheck, clockRead_link, State.linkHighJudged]
  exact if_congr (by simp) rfl rfl

theorem satHighChecks_linkHighJudged (h : s.Shape) :
    (s.linkHighJudged.forEachSat fun a t => t.satHighCheck a (s.sat a).sec.sum) = s.highJudged := by
  have hchange := linkHighJudged_change s
  have hchildren : s.linkHighJudged.children = s.children :=
    children_congr (hchange.cfg.trans (clockRead_cfg s)) fun a =>
      (hchange.satPresent a).trans (satPresent_congr (clockRead_cfg s) (clockRead_sats s) a)
  rw [forEachSat_checked s.linkHighJudged (g := fun a t => t.satHighCheck a (s.sat a).sec.sum)
    (f := fun a u => u.opBlock (.sat a) opErrorSecond)
    (c := fun a x => !hasBit x.op opErrorSecond && decide (x.thresHigh.toNat ≤ (s.sat a).sec.sum))
    (fun a t => blockOne_local t a _) fun _ _ => rfl, hchildren, State.highJudged]
  congr 1
  refine List.filter_congr fun a _ => ?_
  rw [linkHighJudged_hasBit s h, hchange.thresHigh, clockRead_sat, State.satOver]

variable (hthr : s.ThresholdsOrdered)
include hthr

theorem linkLowCheck_highJudged : s.highJudged.linkLowCheck s.link.sec.sum = s.linkLowJudged := by
  have hlow : s.highJudged.link.thresLow = s.link.thresLow :=
    (highJudged_change s).linkThresLow.trans (congrArg LinkRegs.thresLow (clockRead_link s))
  have hord : s.link.thresLow.toNat < s.link.thresHigh.toNat := hthr.link
  rw [State.linkLowCheck, State.linkLowJudged, hlow, highJudged_link, linkHighJudged_link]
  refine if_congr ?_ rfl rfl
  rw [Bool.and_eq_true_iff, decide_eq_true_eq]
  refine and_congr_left fun hsum => ?_
  rw [if_neg fun hover => absurd (Nat.lt_of_lt_of_le hord (hover.2.trans hsum)) (Nat.lt_irrefl _)]

theorem satLowChecks_linkLowJudged (h : s.Shape) :
    (s.linkLowJudged.forEachSat fun a t => t.satLowCheck a (s.sat a).sec.sum) = s.lowJudged := by
  have hchange := linkLowJudged_change s
  have hhigh := highJudged_change s
  have hchildren : s.linkLowJudged.children = s.children :=
    children_congr ((hchange.cfg.trans hhigh.cfg).trans (clockRead_cfg s)) fun a =>
      (hchange.satPresent a).trans (highJudged_satPresent s a)
  rw [forEachSat_checked s.linkLowJudged (g := fun a t => t.satLowCheck a (s.sat a).sec.sum)
    (f := fun a u => u.opDeBlock (.sat a) opErrorSecond)
    (c := fun a x => hasBit x.op opErrorSecond && decide ((s.sat a).sec.sum ≤ x.thresLow.toNat))
    (fun a t => deblockSat_local t a _) fun _ _ => rfl, hchildren, State.lowJudged]
  congr 1
  refine List.filter_congr fun a ha => ?_
  have hp := (mem_children s a).mp ha
  have hlow : (s.linkLowJudged.sat a).thresLow = (s.sat a).thresLow := by
    rw [hchange.thresLow, hhigh.thresLow, clockRead_sat]
  have hord : (s.sat a).thresLow.toNat < (s.sat a).thresHigh.toNat :=
    hthr.sats _ (sat_mem s (present_lt hp).2)
  rw [linkLowJudged_hasBit s h, highJudged_hasBit s h hp, hlow, State.satUnder]
  by_cases hsum : (s.sat a).sec.sum ≤ (s.sat a).thresLow.toNat
  · have hover : s.satOver a = false := by
      rw [State.satOver, decide_eq_false (by omega), Bool.and_false]
    rw [hover, Bool.or_false]
  · rw [decide_eq_false hsum, Bool.and_false, Bool.and_false]

theorem scanBudget_eq (h : s.Shape) :
    s.scanBudget =
      (if s.atBoundary then s.lowJudged.windowReset s.tick.env.clock else s.highJudged).setPhase .seq := by
  have hhigh := satHighChecks_linkHighJudged s h
  rw [← linkHighCheck_clockRead] at hhigh
  have hlow := satLowChecks_linkLowJudged s hthr h
  rw [← linkLowCheck_highJudged s hthr] at hlow
  rw [← hlow, ← hhigh, State.scanBudget]
  simp only [tick_time]
  rfl

theorem scanBudget_of_boundary (h : s.Shape) (hb : s.atBoundary) :
    s.scanBudget = (s.lowJudged.windowReset s.tick.env.clock).setPhase .seq := by
  rw [scanBudget_eq s hthr h, if_pos hb]

theorem scanBudget_of_within (h : s.Shape) (hb : ¬ s.atBoundary) : s.scanBudget = s.highJudged.setPhase .seq := by
  rw [scanBudget_eq s hthr h, if_neg hb]

omit hthr in
theorem highJudged_time : s.highJudged.time = { s.time with t5 := s.tick.env.clock } :=
  (highJudged_change s).time.trans (clockRead_time s)

omit hthr in
theorem lowJudged_time : s.lowJudged.time = { s.time with t5 := s.tick.env.clock } :=
  (lowJudged_change s).time.trans (highJudged_time s)

theorem scanBudget_time (h : s.Shape) :
    s.scanBudget.time =
      { s.time with
        secBase := if s.atBoundary then s.tick.env.clock else s.time.secBase
        t5 := s.tick.env.clock } := by
  by_cases hb : s.atBoundary
  · rw [scanBudget_of_boundary s hthr h hb, if_pos hb]
    exact congrArg (fun r : TimeRegs => { r with secBase := s.tick.env.clock }) (lowJudged_time s)
  · rw [scanBudget_of_within s hthr h hb, if_neg hb]
    exact highJudged_time s

end Judgements

section Outcome

variable (s : State)

theorem windowReset_sat (w a : Nat) : (s.windowReset w).sat a = { s.sat a with sec := SatCounters.zero } := by
  show ((s.sats.map fun x => { x with sec := SatCounters.zero })[a]?).getD _ = _
  rw [List.getElem?_map, State.sat]
  cases s.sats[a]? <;> rfl

theorem highJudged_sec (h : s.Shape) (a : Nat) : (s.highJudged.sat a).sec = (s.sat a).sec := by
  have hlink : (s.linkHighJudged.sat a).sec = (s.sat a).sec := by
    rw [linkHighJudged_sat s h]
    split <;> rfl
  rw [highJudged_sat, ← hlink]
  split <;> rfl

theorem highJudged_link_sec : s.highJudged.link.sec = s.link.sec := by
  rw [highJudged_link, linkHighJudged_link]
  split <;> rfl

variable (h : s.Shape) (hthr : s.ThresholdsOrdered)
include h hthr

theorem scanBudget_hasBit_link :
    hasBit s.scanBudget.link.op opErrorSecond =
      if hasBit s.link.op opErrorSecond then
        !(decide s.atBoundary && decide (s.link.sec.sum ≤ s.link.thresLow.toNat))
      else decide (s.link.thresHigh.toNat ≤ s.link.sec.sum) := by
  have hhigh := linkHighJudged_hasBit_link s
  by_cases hb : s.atBoundary
  · have hlow := lowJudged_hasBit_link s
    rw [scanBudget_of_boundary s hthr h hb, decide_eq_true hb]
    refine Eq.trans hlow ?_
    rw [hhigh]
    cases hasBit s.link.op opErrorSecond <;> simp
  · rw [scanBudget_of_within s hthr h hb, decide_eq_false hb, Bool.false_and, Bool.not_false]
    refine Eq.trans (congrArg (fun l : LinkRegs => hasBit l.op opErrorSecond) (highJudged_link s)) (hhigh.trans ?_)
    cases hasBit s.link.op opErrorSecond <;> rfl

theorem scanBudget_hasBit_sat {a : Nat} (hp : s.satPresent a = true) :
    hasBit (s.scanBudget.sat a).op opErrorSecond =
      if hasBit (s.sat a).op opErrorSecond then
        !(decide s.atBoundary && decide ((s.sat a).sec.sum ≤ (s.sat a).thresLow.toNat))
      else decide ((s.sat a).thresHigh.toNat ≤ (s.sat a).sec.sum) := by
  by_cases hb : s.atBoundary
  · have hwindow := congrArg Sat.op (windowReset_sat s.lowJudged s.tick.env.clock a)
    rw [scanBudget_of_boundary s hthr h hb, decide_eq_true hb]
    refine Eq.trans (congrArg (hasBit · opErrorSecond) hwindow) ((lowJudged_hasBit s h hp).trans ?_)
    rw [State.satOver, State.satUnder]
    cases hasBit (s.sat a).op opErrorSecond <;> simp
  · rw [scanBudget_of_within s hthr h hb, decide_eq_false hb, Bool.false_and, Bool.not_false]
    refine Eq.trans (highJudged_hasBit s h hp) ?_
    rw [State.satOver]
    cases hasBit (s.sat a).op opErrorSecond <;> simp

/-- The state before the window is restarted, as the two rounds of checks leave it. -/
def State.judged (s : State) : State :=
  (s.children.filter fun a => decide s.atBoundary && hasBit (s.sat a).op opErrorSecond
      && decide ((s.sat a).sec.sum ≤ (s.sat a).thresLow.toNat)).foldl
    (fun u a => u.opDeBlock (.sat a) opErrorSecond)
    (if s.atBoundary ∧ s.linkUnder then s.highJudged.opDeBlock .link opErrorSecond else s.highJudged)

omit h hthr in
theorem judged_eq : s.judged = if s.atBoundary then s.lowJudged else s.highJudged := by
  unfold State.judged
  by_cases hb : s.atBoundary
  · rw [if_pos hb, decide_eq_true hb]
    simp only [Bool.true_and, hb, true_and]
    rfl
  · rw [if_neg hb, decide_eq_false hb, if_neg fun hc => hb hc.1]
    simp only [Bool.false_and, List.filter_false, List.foldl_nil]

theorem scanBudget_eq_judged :
    s.scanBudget =
      { s.judged with
        scanPhase := .seq
        link := if s.atBoundary then { s.judged.link with sec := LinkCounters.zero } else s.judged.link
        sats := if s.atBoundary then s.judged.sats.map (fun x => { x with sec := SatCounters.zero }) else s.judged.sats
        time := if s.atBoundary then { s.judged.time with secBase := s.tick.env.clock } else s.judged.time } := by
  rw [scanBudget_eq s hthr h, judged_eq]
  by_cases hb : s.atBoundary
  · simp only [if_pos hb]
    rfl
  · simp only [if_neg hb]
    rfl

omit h hthr in
theorem judged_reest_env : s.judged.reest = s.linkHighJudged.reest ∧ s.judged.env = s.linkHighJudged.env := by
  rw [judged_eq]
  split
  · exact lowJudged_reest_env s
  · exact highJudged_reest_env s

theorem scanBudget_env : s.scanBudget.env = s.linkHighJudged.env :=
  (congrArg State.env (scanBudget_eq_judged s h hthr) :).trans (judged_reest_env s).2

/-- Only the Link's high check arms the timer. -/
theorem scanBudget_reest :
    (s.linkOver → s.scanBudget.reest = ⟨true, s.scanBudget.env.clock + s.cfg.tReestablishMs⟩)
      ∧ (¬ s.linkOver → s.scanBudget.reest = s.reest) := by
  have hreest : s.scanBudget.reest = s.linkHighJudged.reest :=
    (congrArg State.reest (scanBudget_eq_judged s h hthr) :).trans (judged_reest_env s).1
  rw [hreest, scanBudget_env s h hthr]
  exact ⟨fun hover => (linkHighJudged_reest s).trans (if_pos hover),
    fun hover => (linkHighJudged_reest s).trans (if_neg hover)⟩

end Outcome

section ClockAnswers

variable (s : State)

theorem step_budget (hinput : s.input = .scan) (hphase : s.scanPhase = .budget) :
    step s = .next s.inputTaken.scanBudget := by
  rw [step_scan hinput, State.scanStep, inputTaken_scanPhase, hphase]

theorem inputTaken_clockIn : s.inputTaken.env.clockIn = s.env.clockIn := by
  unfold State.inputTaken
  split <;> rfl

theorem tick_clock_of_cons {d : Nat} {ds : List Nat} (h : s.env.clockIn = d :: ds) :
    s.tick.env.clock = s.env.clock + d := by
  unfold State.tick
  rw [h]
  rfl

end ClockAnswers

end Sys2Proof.Machine

section BudgetStatement

open Sys2Proof Sys2Proof.Machine

/-- Settles O43. -/
theorem budgetFollowsTheThresholds : Obligations.BudgetFollowsTheThresholds := by
  intro s hshape hthr hinput hphase
  let u := s.setEnv s.inputTaken.env
  have hu : s.inputTaken = u := inputTaken_setEnv s
  have hclock : u.env.clock = s.env.clock := inputTaken_clock s
  have hshape' : u.Shape := { hshape with }
  have hthr' : u.ThresholdsOrdered := { hthr with }
  have hstep : step s = .next u.scanBudget := by rw [step_budget s hinput hphase, hu]
  have htime := scanBudget_time u hthr' hshape'
  have ht5 : u.scanBudget.time.t5 = u.tick.env.clock := congrArg TimeRegs.t5 htime
  rw [hu]
  refine ⟨_, hstep, ht5, ?_⟩
  rw [ht5]
  refine ⟨hclock ▸ tick_clock_le u, fun d ds hnext => ?next,
    ⟨scanBudget_hasBit_link u hshape' hthr', fun a hp => scanBudget_hasBit_sat u hshape' hthr' hp,
      fun hb => ?boundary, fun hb => ?within⟩, ?whole, scanBudget_reest u hshape' hthr'⟩
  case next =>
    have hclockIn : u.env.clockIn = d :: ds := (inputTaken_clockIn s).trans hnext
    rw [tick_clock_of_cons u hclockIn, hclock]
  case boundary =>
    rw [htime, scanBudget_of_boundary u hthr' hshape' hb, if_pos (c := u.atBoundary) hb]
    refine ⟨rfl, fun x hx => ?_, rfl⟩
    obtain ⟨y, -, rfl⟩ := List.mem_map.mp hx
    rfl
  case within =>
    rw [htime, scanBudget_of_within u hthr' hshape' hb, if_neg (c := u.atBoundary) hb]
    exact ⟨highJudged_link_sec u, highJudged_sec u hshape', rfl⟩
  case whole =>
    exact scanBudget_eq_judged u hshape' hthr'

end BudgetStatement

/-! # What the steps do (spec/42_scan_engine.md, spec/43_discovery.md, spec/46_host_commands.md)

Every step but reset is one of the acts that the invariants speak of, followed by changes that no invariant of the
entities and slots sees: `Quiet` says what those leave alone, and `Acts` lists the acts. -/

namespace Sys2Proof.Machine

section QuietChanges

variable {s t u : State}

/-- From `s` to `t` only counters, received frames and statuses, and nothing else of Link, satellites and slots has
changed; of discovery at most its start request. -/
structure Quiet (s t : State) : Prop where
  cfg : t.cfg = s.cfg
  disc : t.disc = { s.disc with pending := t.disc.pending }
  link : { t.link with cum := s.link.cum, sec := s.link.sec } = s.link
  satsLength : t.sats.length = s.sats.length
  slotsLength : t.slots.length = s.slots.length
  sat : ∀ a, { t.sat a with cum := (s.sat a).cum, sec := (s.sat a).sec, test := (s.sat a).test } = s.sat a
  slot : ∀ i, { t.slot i with rxBytes := (s.slot i).rxBytes, status := (s.slot i).status } = s.slot i

theorem Quiet.refl (s : State) : Quiet s s := ⟨rfl, rfl, rfl, rfl, rfl, fun _ => rfl, fun _ => rfl⟩

theorem Quiet.trans (h : Quiet s t) (h' : Quiet t u) : Quiet s u where
  cfg := h'.cfg.trans h.cfg
  disc := h'.disc.trans (by rw [h.disc])
  link := (congrArg (fun l : LinkRegs => { l with cum := s.link.cum, sec := s.link.sec }) h'.link).trans h.link
  satsLength := h'.satsLength.trans h.satsLength
  slotsLength := h'.slotsLength.trans h.slotsLength
  sat a := (congrArg (fun x : Sat =>
    { x with cum := (s.sat a).cum, sec := (s.sat a).sec, test := (s.sat a).test }) (h'.sat a)).trans (h.sat a)
  slot i := (congrArg (fun sl : Slot =>
    { sl with rxBytes := (s.slot i).rxBytes, status := (s.slot i).status }) (h'.slot i)).trans (h.slot i)

/-- A change that leaves Link, satellites and slots alone. -/
theorem Quiet.ofSame (hcfg : t.cfg = s.cfg) (hdisc : t.disc = { s.disc with pending := t.disc.pending })
    (hlink : t.link = s.link) (hsats : t.sats = s.sats) (hslots : t.slots = s.slots) : Quiet s t where
  cfg := hcfg
  disc := hdisc
  link := by rw [hlink]
  satsLength := by rw [hsats]
  slotsLength := by rw [hslots]
  sat a := by rw [sat_congr hsats]
  slot i := by rw [slot_congr hslots]

theorem Quiet.ite {c : Prop} [Decidable c] (ht : Quiet s t) (hu : Quiet s u) : Quiet s (if c then t else u) := by
  split
  · exact ht
  · exact hu

section Operations

variable (h : Quiet s t)
include h

theorem Quiet.emit (e : Event) : Quiet s (t.emit e) :=
  h.trans (.ofSame (emit_cfg t e) (by rw [emit_disc]) (emit_link t e) (emit_sats t e) (emit_slots t e))

theorem Quiet.tick : Quiet s t.tick :=
  h.trans (.ofSame (tick_cfg t) (by rw [tick_disc]) (tick_link t) (tick_sats t) (tick_slots t))

theorem Quiet.setPhase (ph : ScanPhase) : Quiet s (t.setPhase ph) := h.trans (.ofSame rfl rfl rfl rfl rfl)

theorem Quiet.setTime (r : TimeRegs) : Quiet s (t.setTime r) := h.trans (.ofSame rfl rfl rfl rfl rfl)

theorem Quiet.setEvents (q : List Word) (o : Bool) : Quiet s (t.setEvents q o) := h.trans (.ofSame rfl rfl rfl rfl rfl)

theorem Quiet.setLink {l : LinkRegs} (hl : { l with cum := t.link.cum, sec := t.link.sec } = t.link) :
    Quiet s (t.setLink l) := h.trans ⟨rfl, rfl, hl, rfl, rfl, fun _ => rfl, fun _ => rfl⟩

theorem Quiet.modifySat (a : Nat) {g : Sat → Sat}
    (hg : ∀ x, { g x with cum := x.cum, sec := x.sec, test := x.test } = x) : Quiet s (t.modifySat a g) := by
  refine h.trans ⟨rfl, rfl, rfl, modifySat_length t a g, rfl, fun c => ?_, fun _ => rfl⟩
  rw [sat_modifySat]
  split
  · exact hg _
  · rfl

theorem Quiet.modifySlot (i : Nat) {g : Slot → Slot}
    (hg : ∀ sl, { g sl with rxBytes := sl.rxBytes, status := sl.status } = sl) : Quiet s (t.modifySlot i g) := by
  refine h.trans ⟨rfl, rfl, rfl, rfl, modifySlot_length t i g, fun _ => rfl, fun c => ?_⟩
  rw [slot_modifySlot]
  split
  · exact hg _
  · rfl

theorem Quiet.countLink (k : LinkKind) : Quiet s (t.countLink k) := h.setLink rfl

theorem Quiet.routeOne (a : Nat) (k : SatKind) : Quiet s (t.routeOne a k) := by
  have hsat : Quiet s (t.modifySat a fun x => { x with cum := x.cum.inc k, sec := x.sec.inc k }) :=
    h.modifySat a fun _ => rfl
  exact .ite (h.modifySat a fun _ => rfl) (hsat.countLink k.toLink)

theorem Quiet.route (a : Nat) (eCrc eRem eWd : Bool) : Quiet s (t.route a eCrc eRem eWd) := by
  have hcrc : Quiet s (if eCrc then t.routeOne a .rxcrc else t) := .ite (h.routeOne a _) h
  have hrem := Quiet.ite (c := eRem = true) (hcrc.routeOne a .remcrc) hcrc
  exact .ite (hrem.routeOne a .wd) hrem

theorem Quiet.latchStatus (i : Nat) (flags : Status) : Quiet s (t.latchStatus i flags) := h.modifySlot i fun _ => rfl

theorem Quiet.notifyStatus (i : Nat) : Quiet s (t.notifyStatus i) := .ite (h.emit _) h

theorem Quiet.processBadSlot (i : Nat) : Quiet s (t.processBadSlot i) := (h.latchStatus i _).notifyStatus i

theorem Quiet.processSlot (i : Nat) : Quiet s (t.processSlot i) := by
  have hstored : Quiet s (t.frameStored i) := h.modifySlot i fun _ => rfl
  cases hbad : t.receivedBad i with
  | true =>
    have hlatched : Quiet s (t.frameLatched i) := hstored.latchStatus i _
    rw [processSlot_of_bad t i hbad]
    exact .ite ((hlatched.route i _ _ _).notifyStatus i) hlatched
  | false =>
    rw [processSlot_of_good t i hbad]
    exact .ite (hstored.emit _) hstored

theorem Quiet.scanProcess : Quiet s t.scanProcess := by
  have hbad : Quiet s t.processBad := by
    have hsym := Quiet.ite (c := t.cyc.sym = true) (h.countLink .sym) h
    have hsize := Quiet.ite (c := t.cyc.size = true) (hsym.countLink .size) hsym
    exact foldl_induct _ _ (fun i _ _ hu => hu.processBadSlot i) hsize
  have hgood : Quiet s ((List.range t.activeSlots).foldl (fun u i => u.processSlot i) t) :=
    foldl_induct t _ (fun i _ _ hu => hu.processSlot i) h
  exact (Quiet.ite hbad hgood).setPhase _

theorem Quiet.scanWait : Quiet s t.scanWait := by
  rw [scanWait_eq]
  exact h.tick.setPhase _

theorem Quiet.scanTxrx : Quiet s t.scanTxrx := by
  by_cases hnone : t.activeSlots = 0
  · rw [scanTxrx_of_silent t hnone]
    exact h.trans (.ofSame rfl rfl rfl rfl rfl)
  · rw [scanTxrx_of_active t hnone]
    exact h.trans (.ofSame rfl rfl rfl rfl rfl)

theorem Quiet.scanTiming : Quiet s t.scanTiming :=
  Quiet.setPhase (.ite (h.tick.setTime _) ((h.tick.countLink .timing).setTime _)) _

theorem Quiet.reestCheck : Quiet s t.reestCheck := by
  have hframe := reestCheck_frame t t.reest t.disc
  exact h.trans (.ofSame (congrArg State.cfg hframe :) (reestCheck_disc t) (congrArg State.link hframe :)
    (congrArg State.sats hframe :) (congrArg State.slots hframe :))

theorem Quiet.readRegister (addr : Nat) : Quiet s (t.readRegister addr) :=
  have hread : Quiet s (t.setReadValue (some (t.register addr))) := h.trans (.ofSame rfl rfl rfl rfl rfl)
  .ite (hread.setEvents _ _) hread

theorem Quiet.writeRegister (addr : Nat) (v : Word) : Quiet s (t.writeRegister addr v) := by
  unfold State.writeRegister
  split
  · exact h.trans (.ofSame rfl rfl rfl rfl rfl)
  · exact .ite (h.setEvents _ _) h
  · exact h

theorem Quiet.ended (code : Byte) (v : Word) : Quiet s (t.ended code v) := h.trans (.ofSame rfl rfl rfl rfl rfl)

/-- The window's restart clears counters alone (R171). -/
theorem Quiet.windowReset (w : Nat) : Quiet s (t.windowReset w) := by
  refine h.trans ⟨rfl, rfl, rfl, List.length_map _, rfl, fun a => ?_, fun _ => rfl⟩
  rw [windowReset_sat]

end Operations

/-! What a quiet change keeps. -/

section Kept

variable (h : Quiet s t)
include h

theorem Quiet.linkOp : t.link.op = s.link.op := (congrArg LinkRegs.op h.link :)
theorem Quiet.activeSlots : t.activeSlots = s.activeSlots := (congrArg (fun l : LinkRegs => l.noOfSats.toNat) h.link :)

theorem Quiet.satPresent (a : Nat) : t.satPresent a = s.satPresent a :=
  congrArg₂ (fun (p : Config.Params) x => decide (a < p.maxSats) && x) h.cfg (congrArg Sat.present (h.sat a) :)

end Kept

end QuietChanges

section EveryAct

/-- The probe's result taken (R196). -/
def State.probeAccepted (s : State) : State :=
  { s with
    slots := s.slots.map (Slot.requestSrv false)
    disc :=
      { s.disc with
        state := .clear
        cnt := BitVec.ofNat 16 s.cfg.settleCycles
        result := BitVec.ofNat 8 s.probeCount } }

/-- The acts of a step that takes input `i`: what happens to the entities and slots of `u`, before quiet changes. -/
inductive Acts (i : Input) (u : State) : State → Prop
  | none : Acts i u u
  | command {t : State} {v : Word} (succeeds : Succeeds u t v) : Acts i u t
  | encodes (quiet : u.disc.pending = false) : Acts i u u.countdownModes.encodeSlots
  | discovers (asked : u.disc.pending = true) : Acts i u u.discoveryStart.countdownModes.encodeSlots
  | judges (hinput : i = .scan) (hphase : u.scanPhase = .budget) : Acts i u u.judged
  | tests (idle : u.disc.state = .idle) : Acts i u u.selftestsStepped
  | counts (running : u.disc.state ≠ .idle) (more : u.disc.cnt ≠ 1) :
      Acts i u (u.setDisc { u.disc with cnt := u.disc.cnt - 1 })
  | accepts (probes : u.disc.state = .probe) (last : u.disc.cnt = 1)
      (silent : (u.slot u.cfg.maxSats).status.remoteCrcError = false) : Acts i u u.probeAccepted
  | aborts (probes : u.disc.state = .probe) (last : u.disc.cnt = 1)
      (answers : (u.slot u.cfg.maxSats).status.remoteCrcError = true) : Acts i u u.probeAborted.linkFailed
  | finishes (clears : u.disc.state = .clear) (last : u.disc.cnt = 1) : Acts i u u.windowEnded.discoveryFinish

variable {s t u : State} {i : Input}

/-- While discovery runs INIT blocks the Link. -/
theorem link_blocked_of_discovery (h : u.Sound) (hrunning : u.disc.state ≠ .idle) : u.link.op ≠ 0 := by
  intro hzero
  have hinit := (h.discovery.running hrunning).1
  rw [hzero] at hinit
  exact absurd hinit (by decide)

theorem discoveryFinish_ends (h : u.Sound) (hclear : u.disc.state = .clear) :
    DiscoveryEnds u u.windowEnded.discoveryFinish := by
  have hrunning : u.disc.state ≠ .idle := fun hidle => DiscState.noConfusion (hidle.symm.trans hclear)
  exact (finish_cases h.shape (link_blocked_of_discovery h hrunning) (h.discovery.clear hclear).2
    (h.discovery.running hrunning).2.2.1).1

theorem scanSeq_acts (h : u.Sound) : ∃ v, Acts i u v ∧ Quiet v u.scanSeq := by
  have hafter {v w : State} (hv : Quiet v w) (hw : u.discoveryStep.selftestsStepped = w) : Quiet v u.scanSeq := by
    rw [State.scanSeq, ← State.selftestsStepped, hw]
    exact hv.reestCheck.setPhase _
  by_cases hidle : u.disc.state = .idle
  · exact ⟨_, .tests hidle, hafter (.refl _) (by rw [discoveryStep_of_idle u hidle])⟩
  have hphase := selftests_idle_of_discovery h hidle
  have hrest (v : State) (hv : ∀ a, (v.sat a).stPhase = .idle) : v.selftestsStepped = v := selftestSteps_of_idle hv
  by_cases hlast : u.disc.cnt = 1
  · cases hstate : u.disc.state with
    | idle => exact absurd hstate hidle
    | probe =>
      cases hanswer : (u.slot u.cfg.maxSats).status.remoteCrcError with
      | true =>
        have hchange := (linkFailed_change u.probeAborted).emit (.discResult .tooManySatellites 0)
        refine ⟨_, .aborts hstate hlast hanswer, hafter ((Quiet.refl _).emit (.discResult .tooManySatellites 0)) ?_⟩
        rw [discoveryStep_of_abort hstate hlast hanswer]
        exact hrest _ fun a => (hchange.stPhase a).trans (hphase a)
      | false =>
        refine ⟨_, .accepts hstate hlast hanswer, hafter (.refl _) ?_⟩
        rw [discoveryStep_of_accept hstate hlast hanswer]
        exact hrest _ hphase
    | clear =>
      have hends := discoveryFinish_ends h hstate
      refine ⟨_, .finishes hstate hlast, hafter (.refl _) ?_⟩
      rw [discoveryStep_of_clear hstate hlast]
      refine hrest _ fun a => ?_
      rw [hends.sat]
      split
      · rfl
      · exact hphase a
  · refine ⟨_, .counts hidle hlast, hafter (.refl _) ?_⟩
    rw [discoveryStep_of_more hidle hlast]
    exact hrest _ hphase

theorem scanStep_acts (h : u.Sound) : ∃ v, Acts .scan u v ∧ Quiet v u.scanStep := by
  rw [State.scanStep]
  cases hphase : u.scanPhase with
  | wait => exact ⟨_, .none, (Quiet.refl _).scanWait⟩
  | txrx => exact ⟨_, .none, (Quiet.refl _).scanTxrx⟩
  | process => exact ⟨_, .none, (Quiet.refl _).scanProcess⟩
  | timing => exact ⟨_, .none, (Quiet.refl _).scanTiming⟩
  | seq => exact scanSeq_acts h
  | encode =>
    cases hasked : u.disc.pending with
    | true => exact ⟨_, .discovers hasked, (Quiet.refl _).setPhase _⟩
    | false =>
      refine ⟨_, .encodes hasked, ?_⟩
      show Quiet _ u.scanEncode
      rw [scanEncode_of_not_pending hasked]
      exact (Quiet.refl _).setPhase _
  | budget =>
    refine ⟨_, .judges rfl hphase, ?_⟩
    show Quiet _ u.scanBudget
    rw [scanBudget_eq _ h.thresholds h.shape, judged_eq]
    refine Quiet.setPhase ?_ _
    split
    · exact (Quiet.refl _).windowReset _
    · exact .refl _

theorem resetInput_sound (h : u.cfg.legal = true) : u.resetInput.Sound := by
  rw [resetInput_eq]
  exact setEnv_sound rfl (resetWith_sound h _)

/-- Every step but reset is an act, followed by quiet changes. -/
theorem step_acts (h : s.Sound) (hstep : step s = .next t) :
    s.input = .reset ∧ t = s.inputTaken.resetInput ∨ ∃ v, Acts s.input s.inputTaken v ∧ Quiet v t := by
  rcases step_cases hstep with ⟨hscan, rfl⟩ | ⟨hreset, rfl⟩ | ⟨addr, rfl⟩ | ⟨addr, v, rfl⟩ | ⟨i, hexec⟩
  · exact .inr (hscan ▸ scanStep_acts (inputTaken_sound h))
  · exact .inl ⟨hreset, rfl⟩
  · exact .inr ⟨_, .none, (Quiet.refl _).readRegister addr⟩
  · exact .inr ⟨_, .none, (Quiet.refl _).writeRegister addr v⟩
  · rcases exec_ends s.inputTaken i with ⟨code, hcode⟩ | ⟨v, w, hsucceeds, hcode⟩
    · cases hexec.symm.trans hcode
      exact .inr ⟨_, .none, (Quiet.refl _).ended _ _⟩
    · cases hexec.symm.trans hcode
      exact .inr ⟨_, .command hsucceeds, (Quiet.refl _).ended _ _⟩

end EveryAct

end Sys2Proof.Machine

/-! # Thresholds, adm-states and the cascade at every step (spec/44_state_machine.md R215, R216, R224)

`RecordsKept` and `ThresholdsKept` say what an act leaves of the entities' records; `BitsKept` which bits of their
op-states. -/

namespace Sys2Proof.Machine

section Records

variable {s t u : State}

/-- Existence and adm-states are as they were. -/
structure RecordsKept (s t : State) : Prop where
  cfg : t.cfg = s.cfg
  linkAdm : t.link.adm = s.link.adm
  present : ∀ a, (t.sat a).present = (s.sat a).present
  adm : ∀ a, (t.sat a).adm = (s.sat a).adm

/-- Thresholds are as they were. -/
structure ThresholdsKept (s t : State) : Prop where
  satsLength : t.sats.length = s.sats.length
  link : t.link.thresHigh = s.link.thresHigh ∧ t.link.thresLow = s.link.thresLow
  sat : ∀ a, (t.sat a).thresHigh = (s.sat a).thresHigh ∧ (t.sat a).thresLow = (s.sat a).thresLow

theorem RecordsKept.satPresent (h : RecordsKept s t) (a : Nat) : t.satPresent a = s.satPresent a :=
  congrArg₂ (fun (p : Config.Params) x => decide (a < p.maxSats) && x) h.cfg (h.present a)

theorem RecordsKept.ofOpChange (h : OpChange s t) : RecordsKept s t := ⟨h.cfg, h.linkAdm, h.present, h.adm⟩

theorem RecordsKept.ofQuiet (h : Quiet s t) : RecordsKept s t :=
  ⟨h.cfg, (congrArg LinkRegs.adm h.link :), fun a => (congrArg Sat.present (h.sat a) :),
    fun a => (congrArg Sat.adm (h.sat a) :)⟩

theorem RecordsKept.ofSame (hcfg : t.cfg = s.cfg) (hadm : t.link.adm = s.link.adm) (hsats : t.sats = s.sats) :
    RecordsKept s t := ⟨hcfg, hadm, fun a => by rw [sat_congr hsats], fun a => by rw [sat_congr hsats]⟩

theorem RecordsKept.trans (h : RecordsKept s t) (h' : RecordsKept t u) : RecordsKept s u :=
  ⟨h'.cfg.trans h.cfg, h'.linkAdm.trans h.linkAdm, fun a => (h'.present a).trans (h.present a),
    fun a => (h'.adm a).trans (h.adm a)⟩

theorem RecordsKept.modifySat (s : State) (a : Nat) {g : Sat → Sat}
    (hg : ∀ x, (g x).present = x.present ∧ (g x).adm = x.adm) : RecordsKept s (s.modifySat a g) := by
  refine ⟨rfl, rfl, fun c => ?_, fun c => ?_⟩
  · rw [sat_modifySat]
    split
    · exact (hg _).1
    · rfl
  · rw [sat_modifySat]
    split
    · exact (hg _).2
    · rfl

theorem RecordsKept.selftestStarted (s : State) (a : Nat) (implicit : Bool) :
    RecordsKept s (s.selftestStarted a implicit) := by
  have hreq : RecordsKept s (s.setTxReq a .srv true) := .ofSame rfl rfl rfl
  refine hreq.trans (.modifySat _ a fun x => ?_)
  exact ⟨rfl, rfl⟩

theorem RecordsKept.afterDeBlock (s : State) (e : Entity) : RecordsKept s (s.afterDeBlock e) := by
  cases e with
  | link => exact .ofSame rfl rfl rfl
  | sat a =>
    rw [afterDeBlock_eq]
    split
    · exact .selftestStarted s a true
    · exact .ofSame rfl rfl rfl

theorem ThresholdsKept.ofOpChange (h : OpChange s t) : ThresholdsKept s t :=
  ⟨h.satsLength, ⟨h.linkThresHigh, h.linkThresLow⟩, fun a => ⟨h.thresHigh a, h.thresLow a⟩⟩

theorem ThresholdsKept.ofQuiet (h : Quiet s t) : ThresholdsKept s t :=
  ⟨h.satsLength, ⟨(congrArg LinkRegs.thresHigh h.link :), (congrArg LinkRegs.thresLow h.link :)⟩,
    fun a => ⟨(congrArg Sat.thresHigh (h.sat a) :), (congrArg Sat.thresLow (h.sat a) :)⟩⟩

theorem ThresholdsKept.ofSame (hhigh : t.link.thresHigh = s.link.thresHigh) (hlow : t.link.thresLow = s.link.thresLow)
    (hsats : t.sats = s.sats) : ThresholdsKept s t :=
  ⟨by rw [hsats], ⟨hhigh, hlow⟩, fun a => by rw [sat_congr hsats]; exact ⟨rfl, rfl⟩⟩

theorem ThresholdsKept.trans (h : ThresholdsKept s t) (h' : ThresholdsKept t u) : ThresholdsKept s u :=
  ⟨h'.satsLength.trans h.satsLength, ⟨h'.link.1.trans h.link.1, h'.link.2.trans h.link.2⟩,
    fun a => ⟨(h'.sat a).1.trans (h.sat a).1, (h'.sat a).2.trans (h.sat a).2⟩⟩

theorem ThresholdsKept.modifySat (s : State) (a : Nat) {g : Sat → Sat}
    (hg : ∀ x, (g x).thresHigh = x.thresHigh ∧ (g x).thresLow = x.thresLow) :
    ThresholdsKept s (s.modifySat a g) := by
  refine ⟨modifySat_length s a g, ⟨rfl, rfl⟩, fun c => ?_⟩
  rw [sat_modifySat]
  split
  · exact hg _
  · exact ⟨rfl, rfl⟩

theorem ThresholdsKept.setAdm (s : State) (e : Entity) (adm : Adm) : ThresholdsKept s (s.setAdm e adm) := by
  cases e with
  | link => exact .ofSame rfl rfl rfl
  | sat a => exact .modifySat s a fun _ => ⟨rfl, rfl⟩

theorem ThresholdsKept.selftestStarted (s : State) (a : Nat) (implicit : Bool) :
    ThresholdsKept s (s.selftestStarted a implicit) := by
  have hreq : ThresholdsKept s (s.setTxReq a .srv true) := .ofSame rfl rfl rfl
  refine hreq.trans (.modifySat _ a fun x => ?_)
  exact ⟨rfl, rfl⟩

theorem ThresholdsKept.afterDeBlock (s : State) (e : Entity) : ThresholdsKept s (s.afterDeBlock e) := by
  cases e with
  | link => exact .ofSame rfl rfl rfl
  | sat a =>
    rw [afterDeBlock_eq]
    split
    · exact .selftestStarted s a true
    · exact .ofSame rfl rfl rfl

theorem BitsKept.ofQuiet (mask : OpState) (h : Quiet s t) : BitsKept mask s t :=
  .ofSame h.linkOp fun a => (congrArg Sat.op (h.sat a) :)

theorem BitsKept.setAdm {mask : OpState} (h : BitsKept mask s t) (e : Entity) (adm : Adm) :
    BitsKept mask s (t.setAdm e adm) := by
  cases e with
  | link => exact h.setLink rfl
  | sat a => exact h.modifySat a fun _ => rfl

theorem BitsKept.selftestStarted {mask : OpState} (h : BitsKept mask s t) (a : Nat) (implicit : Bool) :
    BitsKept mask s (t.selftestStarted a implicit) := by
  have hreq : BitsKept mask s (t.setTxReq a .srv true) := h.trans (.ofSame rfl fun _ => rfl)
  refine hreq.modifySat a fun x => ?_
  rfl

theorem BitsKept.afterDeBlock {mask : OpState} (h : BitsKept mask s t) (e : Entity) :
    BitsKept mask s (t.afterDeBlock e) := by
  cases e with
  | link => exact h.trans (.ofSame rfl fun _ => rfl)
  | sat a =>
    rw [afterDeBlock_eq]
    split
    · exact h.selftestStarted a true
    · exact h

end Records

section Invariants

variable {s t : State}

theorem thresholdsOrdered_iff :
    s.ThresholdsOrdered ↔ s.link.thresLow < s.link.thresHigh
      ∧ ∀ a, a < s.sats.length → (s.sat a).thresLow < (s.sat a).thresHigh := by
  refine ⟨fun h => ⟨h.link, fun a ha => h.sats _ (sat_mem s ha)⟩, fun h => ⟨h.1, fun x hx => ?_⟩⟩
  obtain ⟨a, ha, rfl⟩ := List.getElem_of_mem hx
  have hsat := h.2 a ha
  rwa [State.sat, List.getElem?_eq_getElem ha] at hsat

theorem ThresholdsKept.ordered (h : ThresholdsKept s t) (hs : s.ThresholdsOrdered) : t.ThresholdsOrdered := by
  obtain ⟨hlink, hsats⟩ := thresholdsOrdered_iff.mp hs
  refine thresholdsOrdered_iff.mpr ⟨?_, fun a ha => ?_⟩
  · rw [h.link.1, h.link.2]
    exact hlink
  · rw [(h.sat a).1, (h.sat a).2]
    exact hsats a (h.satsLength ▸ ha)

/-- What holds of a satellite after reset holds of all exactly if it holds at every address. -/
theorem forall_sats_iff {P : Sat → Prop} (hreset : P (Sat.reset 0 0)) : (∀ x ∈ s.sats, P x) ↔ ∀ a, P (s.sat a) := by
  refine ⟨fun h a => forall_sats h hreset a, fun h x hx => ?_⟩
  obtain ⟨a, ha, rfl⟩ := List.getElem_of_mem hx
  have hsat := h a
  rwa [State.sat, List.getElem?_eq_getElem ha] at hsat

theorem State.AdmSound.of_kept (hs : s.AdmSound) (h : RecordsKept s t) (hbits : BitsKept opDisabled s t) :
    t.AdmSound where
  link := by
    rw [hbits.hasBit_link, h.linkAdm]
    exact hs.link
  sats := by
    refine (forall_sats_iff (P := fun x => hasBit x.op opDisabled = true ↔ x.adm = .disable) (by decide)).mpr fun a => ?_
    rw [hbits.hasBit_sat, h.adm]
    exact forall_sats hs.sats (by decide) a

theorem satNever_iff : (∀ x ∈ s.sats, hasBit x.op opInit = false) ↔ ∀ a, hasBit (s.sat a).op opInit = false :=
  forall_sats_iff (P := fun x => hasBit x.op opInit = false) (by decide)

/-- Where the Link stays WORKING or blocked and no satellite's CONTROL_BLOCKED or INIT changes. -/
theorem State.Cascaded.of_kept (hs : s.Cascaded) (h : ∀ a, t.satPresent a = s.satPresent a)
    (hlink : t.link.op = s.link.op) (hblocked : BitsKept opControlBlocked s t) (hinit : BitsKept opInit s t) : t.Cascaded where
  blocked a hp := by
    rw [hblocked.hasBit_sat, hlink]
    exact hs.blocked a (h a ▸ hp)
  linkNever := by
    rw [hlink]
    exact hs.linkNever
  satNever := satNever_iff.mpr fun a => by
    rw [hinit.hasBit_sat]
    exact satNever_iff.mp hs.satNever a

/-- Where no satellite exists. -/
theorem State.Cascaded.of_none (hnone : ∀ a, t.satPresent a = false)
    (hlink : hasBit t.link.op opControlBlocked = false) (hinit : ∀ a, hasBit (t.sat a).op opInit = false) : t.Cascaded where
  blocked a hp := by
    rw [hnone a] at hp
    cases hp
  linkNever := hlink
  satNever := satNever_iff.mpr hinit

theorem opDeBlock_link_sat_freed (flag : OpState) (h : s.Shape) (a : Nat) :
    (s.opDeBlock .link flag).sat a =
      if s.wakes flag ∧ s.satPresent a = true then (s.sat a).freed opControlBlocked else s.sat a :=
  opDeBlock_link_sat s flag h a

theorem opBlock_link_sat_raised (flag : OpState) (h : s.Shape) (a : Nat) :
    (s.opBlock .link flag).sat a =
      if s.link.op = 0 ∧ s.satPresent a = true then (s.sat a).raised opControlBlocked else s.sat a :=
  opBlock_link_sat s flag h a

theorem freed_adm (flag : OpState) (x : Sat) : (x.freed flag).adm = x.adm := by
  unfold Sat.freed
  split <;> rfl

/-- opBlock of the Link: it blocks the children where it was WORKING. -/
theorem State.Cascaded.opBlock_link {flag : OpState} (hs : s.Cascaded) (hne : flag ≠ 0)
    (hflag : flag &&& opControlBlocked = 0) (hshape : s.Shape) : (s.opBlock .link flag).Cascaded := by
  have hchange := (OpChange.refl s).opBlock .link flag
  have hop : (s.opBlock .link flag).link.op = s.link.op ||| flag :=
    congrArg LinkRegs.op (opBlock_link_link s flag)
  have hblocked : s.link.op ||| flag ≠ 0 := fun hzero => hne (BitVec.or_eq_zero_iff.mp hzero).2
  refine ⟨fun a hp => ?_, ?_, satNever_iff.mpr fun a => ?_⟩
  · have hp' : s.satPresent a = true := (hchange.satPresent a).symm.trans hp
    rw [opBlock_link_sat s flag hshape, hop]
    by_cases hlink : s.link.op = 0
    · rw [if_pos ⟨hlink, hp'⟩]
      exact iff_of_true (hasBit_or_self (by decide)) hblocked
    · rw [if_neg fun hc => hlink hc.1]
      exact iff_of_true ((hs.blocked a hp').mpr hlink) hblocked
  · rw [hop, hasBit_of_and_eq (or_and_of_outside hflag)]
    exact hs.linkNever
  · have hnever := satNever_iff.mp hs.satNever a
    rw [opBlock_link_sat s flag hshape]
    split
    · exact (hasBit_of_and_eq (or_and_of_outside (by decide))).trans hnever
    · exact hnever

/-- opDeBlock of the Link: it frees the children where it becomes WORKING. -/
theorem State.Cascaded.opDeBlock_link {flag : OpState} (hs : s.Cascaded) (hflag : flag &&& opControlBlocked = 0)
    (hshape : s.Shape) : (s.opDeBlock .link flag).Cascaded := by
  have hchange := (OpChange.refl s).opDeBlock .link flag
  have hop : (s.opDeBlock .link flag).link.op = s.link.op &&& ~~~flag :=
    congrArg LinkRegs.op (opDeBlock_link_link s flag)
  have hsat (a : Nat) : ((s.opDeBlock .link flag).sat a).op =
      if s.wakes flag ∧ s.satPresent a = true then (s.sat a).op &&& ~~~opControlBlocked else (s.sat a).op := by
    rw [opDeBlock_link_sat_freed flag hshape]
    split
    · exact freed_op opControlBlocked (s.sat a)
    · rfl
  refine ⟨fun a hp => ?_, ?_, satNever_iff.mpr fun a => ?_⟩
  · have hp' : s.satPresent a = true := (hchange.satPresent a).symm.trans hp
    rw [hsat, hop]
    by_cases hwakes : s.wakes flag
    · rw [if_pos ⟨hwakes, hp'⟩, hwakes.2]
      exact iff_of_false (Bool.eq_false_iff.mp hasBit_andNot_self) fun hne => hne rfl
    · rw [if_neg fun hc => hwakes hc.1, hs.blocked a hp']
      refine ⟨fun hne hzero => hwakes ⟨hne, hzero⟩, fun hne hzero => hne ?_⟩
      rw [hzero]
      exact BitVec.zero_and
  · rw [hop, hasBit_of_and_eq (andNot_and_of_outside hflag)]
    exact hs.linkNever
  · have hnever := satNever_iff.mp hs.satNever a
    rw [hsat]
    split
    · exact (hasBit_of_and_eq (andNot_and_of_outside (by decide))).trans hnever
    · exact hnever

/-- opBlock and opDeBlock of a satellite, by a flag that is neither CONTROL_BLOCKED nor INIT. -/
theorem State.Cascaded.opBlock_sat {flag : OpState} (hs : s.Cascaded) (a : Nat)
    (hblocked : flag &&& opControlBlocked = 0) (hinit : flag &&& opInit = 0) : (s.opBlock (.sat a) flag).Cascaded :=
  hs.of_kept ((OpChange.refl s).opBlock (.sat a) flag).satPresent
    (congrArg LinkRegs.op (blockOne_sat_link s a flag))
    ((BitsKept.refl _ s).blockOne hblocked (.sat a)) ((BitsKept.refl _ s).blockOne hinit (.sat a))

theorem State.Cascaded.opDeBlock_sat {flag : OpState} (hs : s.Cascaded) (a : Nat)
    (hblocked : flag &&& opControlBlocked = 0) (hinit : flag &&& opInit = 0) : (s.opDeBlock (.sat a) flag).Cascaded :=
  hs.of_kept ((OpChange.refl s).opDeBlock (.sat a) flag).satPresent (congrArg LinkRegs.op (deblockSat_link s a flag))
    ((BitsKept.refl _ s).deblockSat hblocked a) ((BitsKept.refl _ s).deblockSat hinit a)

end Invariants

section ActsOnEntities

variable {s t : State}

/-! ## What the engine's own acts leave of the entities -/

theorem judged_change (s : State) : OpChange s.clockRead s.judged := by
  rw [judged_eq]
  exact .ite ((highJudged_change s).trans (lowJudged_change s)) (highJudged_change s)

/-- BUDGET sets and clears ERROR_SECOND, and CONTROL_BLOCKED in its cascades. -/
theorem judged_bits {mask : OpState} (herror : opErrorSecond &&& mask = 0) (hblocked : opControlBlocked &&& mask = 0) :
    BitsKept mask s.clockRead s.judged := by
  have hlink : BitsKept mask s.clockRead s.linkHighJudged :=
    .ite ((BitsKept.refl _ _).opBlock herror hblocked .link) (.refl _ _)
  have hhigh : BitsKept mask s.clockRead s.highJudged :=
    foldl_induct s.linkHighJudged _ (fun a _ _ ht => ht.opBlock herror hblocked (.sat a)) hlink
  have hlow : BitsKept mask s.clockRead s.linkLowJudged := .ite (hhigh.opDeBlock herror hblocked .link) hhigh
  have hlow' : BitsKept mask s.clockRead s.lowJudged :=
    foldl_induct s.linkLowJudged _ (fun a _ _ ht => ht.opDeBlock herror hblocked (.sat a)) hlow
  rw [judged_eq]
  exact .ite hlow' hhigh

theorem clockRead_records (s : State) : RecordsKept s s.clockRead :=
  .ofSame (clockRead_cfg s) (by rw [clockRead_link]) (clockRead_sats s)

theorem clockRead_bits (mask : OpState) (s : State) : BitsKept mask s s.clockRead :=
  .ofSame (by rw [clockRead_link]) fun a => by rw [clockRead_sat]

theorem selftestStepped_frame (cycles : Nat) (x : Sat) :
    { x.selftestStepped cycles with
      op := x.op, stPhase := x.stPhase, stCnt := x.stCnt, stImplicit := x.stImplicit } = x := by
  unfold Sat.selftestStepped Sat.phaseEnded
  split
  · rfl
  split
  · split <;> rfl
  · rfl

/-- A self-test's step sets FAIL at most (R235). -/
theorem selftestStepped_op (cycles : Nat) (x : Sat) :
    (x.selftestStepped cycles).op = x.op ∨ (x.selftestStepped cycles).op = x.op ||| opFail := by
  unfold Sat.selftestStepped Sat.phaseEnded
  split
  · exact .inl rfl
  split
  · split
    · unfold Sat.testEnded
      simp only []
      split
      · exact .inr rfl
      · exact .inl rfl
    · exact .inl rfl
  · exact .inl rfl

section Selftests

variable (hshape : s.Shape)
include hshape

theorem selftestsStepped_sat_frame (a : Nat) :
    { s.selftestsStepped.sat a with
      op := (s.sat a).op, stPhase := (s.sat a).stPhase, stCnt := (s.sat a).stCnt
      stImplicit := (s.sat a).stImplicit } = s.sat a := by
  rw [(selftestsStepped_at s hshape a).1]
  split
  · exact selftestStepped_frame _ _
  · rfl

theorem selftestsStepped_records : RecordsKept s s.selftestsStepped :=
  have hframe := selftestsStepped_frame s s.sats s.slots s.evq s.evOvf
  have hsat := selftestsStepped_sat_frame hshape
  ⟨(congrArg State.cfg hframe :), (congrArg (fun t : State => t.link.adm) hframe :),
    fun a => (congrArg Sat.present (hsat a) :), fun a => (congrArg Sat.adm (hsat a) :)⟩

theorem selftestsStepped_thresholds : ThresholdsKept s s.selftestsStepped :=
  have hframe := selftestsStepped_frame s s.sats s.slots s.evq s.evOvf
  have hsat := selftestsStepped_sat_frame hshape
  ⟨(selftestsStepped_lengths s).1, ⟨(congrArg (fun t : State => t.link.thresHigh) hframe :),
    (congrArg (fun t : State => t.link.thresLow) hframe :)⟩,
    fun a => ⟨(congrArg Sat.thresHigh (hsat a) :), (congrArg Sat.thresLow (hsat a) :)⟩⟩

theorem selftestsStepped_bits {mask : OpState} (hmask : opFail &&& mask = 0) : BitsKept mask s s.selftestsStepped := by
  have hframe := selftestsStepped_frame s s.sats s.slots s.evq s.evOvf
  refine ⟨(congrArg (fun t : State => t.link.op &&& mask) hframe :), fun a => ?_⟩
  rw [(selftestsStepped_at s hshape a).1]
  split
  · rcases selftestStepped_op s.cfg.selftestPhaseCycles (s.sat a) with hop | hop
    · rw [hop]
    · rw [hop, or_and_of_outside hmask]
  · rfl

end Selftests

section Discovery

theorem discoveryStart_thresholds (hasked : s.disc.pending = true) (hshape : s.Shape) :
    ThresholdsKept s s.discoveryStart := by
  refine ⟨discoveryStart_sats_length hasked, ?_, fun a => ?_⟩
  · rw [discoveryStart_link hasked]
    exact ⟨rfl, rfl⟩
  · rw [discoveryStart_sat hasked hshape]
    split <;> exact ⟨rfl, rfl⟩

theorem discoveryStart_op (hasked : s.disc.pending = true) (hshape : s.Shape) (a : Nat) :
    (s.discoveryStart.sat a).op = (s.sat a).op ∨ (s.discoveryStart.sat a).op = (s.sat a).op ||| opControlBlocked := by
  rw [discoveryStart_sat hasked hshape]
  split
  · simp only []
    split
    · exact .inr rfl
    · exact .inl rfl
  · exact .inl rfl

theorem discoveryStart_adm (hasked : s.disc.pending = true) (hshape : s.Shape) (a : Nat) :
    (s.discoveryStart.sat a).adm = (s.sat a).adm := by
  rw [discoveryStart_sat hasked hshape]
  split <;> rfl

/-- INIT and CONTROL_BLOCKED are the only bits that the start of discovery sets. -/
theorem discoveryStart_bits (hasked : s.disc.pending = true) (hshape : s.Shape) {mask : OpState}
    (hinit : opInit &&& mask = 0) (hblocked : opControlBlocked &&& mask = 0) : BitsKept mask s s.discoveryStart := by
  refine ⟨?_, fun a => ?_⟩
  · rw [discoveryStart_link hasked]
    exact or_and_of_outside hinit
  · rcases discoveryStart_op hasked hshape a with hop | hop
    · rw [hop]
    · rw [hop, or_and_of_outside hblocked]

theorem linkFailed_bits {mask : OpState} (hfail : opFail &&& mask = 0) (hinit : opInit &&& mask = 0)
    (hblocked : opControlBlocked &&& mask = 0) : BitsKept mask s s.linkFailed :=
  ((BitsKept.refl mask s).opBlock hfail hblocked .link).opDeBlock hinit hblocked .link

theorem DiscoveryEnds.thresholds (h : DiscoveryEnds s t) : ThresholdsKept s t := by
  refine ⟨h.satsLength, ?_, fun a => ?_⟩
  · rw [h.link]
    exact ⟨rfl, rfl⟩
  · rw [h.sat]
    split <;> exact ⟨rfl, rfl⟩

/-- The Link's op-state at the end of discovery. -/
theorem discoveryFinish_link_op (s : State) :
    s.windowEnded.discoveryFinish.link.op = s.link.op &&& ~~~(opFail ||| opInit)
      ∨ s.windowEnded.discoveryFinish.link.op = (s.link.op ||| opFail) &&& ~~~opInit := by
  rw [finished_eq]
  split
  · rw [emit_link, opDeBlock_link_link, finished_link]
    exact .inl rfl
  · rw [emit_link, linkFailed_link, finished_link]
    exact .inr rfl

/-- FAIL and INIT are the only bits of the Link that the end of discovery changes. -/
theorem discoveryFinish_link_bits (s : State) {mask : OpState} (hfail : opFail &&& mask = 0)
    (hinit : opInit &&& mask = 0) : s.windowEnded.discoveryFinish.link.op &&& mask = s.link.op &&& mask := by
  rcases discoveryFinish_link_op s with hop | hop
  · rw [hop, andNot_and_of_outside]
    rw [BitVec.and_or_distrib_right, hfail, hinit]
    rfl
  · rw [hop, andNot_and_of_outside hinit, or_and_of_outside hfail]

end Discovery

/-! ## Every act keeps the thresholds in order -/

theorem Succeeds.thresholds {v : Word} (h : Succeeds s t v) (hs : s.ThresholdsOrdered) : t.ThresholdsOrdered := by
  have hadm {e : Entity} {adm : Adm} {w : State} (hw : OpChange (s.setAdm e adm) w) : w.ThresholdsOrdered :=
    ((ThresholdsKept.setAdm s e adm).trans (.ofOpChange hw)).ordered hs
  cases h with
  | same => exact hs
  | tx | consume | linkCounters =>
    refine ThresholdsKept.ordered ?_ hs
    exact .ofSame rfl rfl rfl
  | linkThres hi lo ordered => exact ⟨ordered, hs.sats⟩
  | satThres a hi lo present ordered =>
    refine thresholdsOrdered_iff.mpr ⟨hs.link, fun c hc => ?_⟩
    rw [sat_modifySat]
    split
    · exact ordered
    · exact (thresholdsOrdered_iff.mp hs).2 c ((modifySat_length s a _).symm ▸ hc)
  | satCounters a g _ _ keeps =>
    refine ThresholdsKept.ordered (.modifySat s a fun x => ?_) hs
    exact ⟨(congrArg Sat.thresHigh (keeps x) :), (congrArg Sat.thresLow (keeps x) :)⟩
  | linkEnable | satEnable =>
    exact (ThresholdsKept.afterDeBlock _ _).ordered (hadm ((OpChange.refl _).opDeBlock _ _))
  | linkDisable | satDisable => exact hadm ((OpChange.refl _).opBlock _ _)
  | selftest a t _ starts =>
    obtain ⟨_, _, rfl⟩ := selftestStart_ok starts
    exact (ThresholdsKept.selftestStarted s a false).ordered hs

/-- The thresholds are in order after every act. -/
theorem Acts.thresholds {i : Input} (h : s.Sound) (ha : Acts i s t) : t.ThresholdsOrdered := by
  have hordered := h.thresholds
  cases ha with
  | none => exact hordered
  | command succeeds => exact succeeds.thresholds hordered
  | encodes | counts | accepts =>
    refine ThresholdsKept.ordered (s := s) ?_ hordered
    exact .ofSame rfl rfl rfl
  | discovers asked =>
    have hstart := (discoveryStart_thresholds asked h.shape).ordered hordered
    refine ThresholdsKept.ordered (s := s.discoveryStart) ?_ hstart
    exact .ofSame rfl rfl rfl
  | judges =>
    have hread : ThresholdsKept s s.clockRead :=
      .ofSame (by rw [clockRead_link]) (by rw [clockRead_link]) (clockRead_sats s)
    exact (hread.trans (.ofOpChange (judged_change s))).ordered hordered
  | tests => exact (selftestsStepped_thresholds h.shape).ordered hordered
  | aborts =>
    have haborted : ThresholdsKept s s.probeAborted := .ofSame rfl rfl rfl
    exact (haborted.trans (.ofOpChange (linkFailed_change _))).ordered hordered
  | finishes clears => exact (discoveryFinish_ends h clears).thresholds.ordered hordered

end ActsOnEntities

section AdmStates

variable {s t : State}

/-! ## DISABLED stays in step with the adm-state -/

theorem admSound_iff :
    s.AdmSound ↔ (hasBit s.link.op opDisabled = true ↔ s.link.adm = .disable)
      ∧ ∀ a, hasBit (s.sat a).op opDisabled = true ↔ (s.sat a).adm = .disable := by
  have hsats := forall_sats_iff (s := s) (P := fun x => hasBit x.op opDisabled = true ↔ x.adm = .disable) (by decide)
  exact ⟨fun h => ⟨h.link, hsats.mp h.sats⟩, fun h => ⟨h.1, hsats.mpr h.2⟩⟩

theorem setAdm_shape {e : Entity} {adm : Adm} (h : s.Shape) : (s.setAdm e adm).Shape := by
  cases e with
  | link => exact { h with }
  | sat a => exact { h with sats := (modifySat_length s a _).trans h.sats }

theorem setAdm_link_sat (adm : Adm) (a : Nat) : (s.setAdm .link adm).sat a = s.sat a := rfl

theorem linkEnabled_admSound (hshape : s.Shape) (hs : s.AdmSound) :
    ((s.setAdm .link .enable).opDeBlock .link opDisabled).AdmSound := by
  obtain ⟨-, hsats⟩ := admSound_iff.mp hs
  refine admSound_iff.mpr ⟨?_, fun a => ?_⟩
  · rw [opDeBlock_link_link]
    exact iff_of_false (Bool.eq_false_iff.mp hasBit_andNot_self) fun hc => Adm.noConfusion hc
  · rw [opDeBlock_link_sat_freed opDisabled (setAdm_shape hshape), setAdm_link_sat]
    split
    · rw [freed_op, freed_adm, hasBit_of_and_eq (andNot_and_of_outside (by decide))]
      exact hsats a
    · exact hsats a

theorem linkDisabled_admSound (hshape : s.Shape) (hs : s.AdmSound) :
    ((s.setAdm .link .disable).opBlock .link opDisabled).AdmSound := by
  obtain ⟨-, hsats⟩ := admSound_iff.mp hs
  refine admSound_iff.mpr ⟨?_, fun a => ?_⟩
  · rw [opBlock_link_link]
    exact iff_of_true (hasBit_or_self (by decide)) rfl
  · rw [opBlock_link_sat_raised opDisabled (setAdm_shape hshape), setAdm_link_sat]
    split
    · exact (iff_of_eq (congrArg (· = true) (hasBit_of_and_eq (or_and_of_outside (by decide))))).trans (hsats a)
    · exact hsats a

/-- Where one satellite's record and op-state have changed in step. -/
theorem State.AdmSound.of_local {a : Nat} (hs : s.AdmSound) (hlocal : Local a s t)
    (hop : t.link.op = s.link.op) (hadm : t.link.adm = s.link.adm)
    (hsat : hasBit (t.sat a).op opDisabled = true ↔ (t.sat a).adm = .disable) : t.AdmSound := by
  obtain ⟨hlink, hsats⟩ := admSound_iff.mp hs
  refine admSound_iff.mpr ⟨by rw [hop, hadm]; exact hlink, fun c => ?_⟩
  by_cases hc : c = a
  · rw [hc]
    exact hsat
  · rw [sat_of_at (hlocal.other c hc)]
    exact hsats c

theorem satEnabled_admSound {a : Nat} (ha : a < s.sats.length) (hs : s.AdmSound) :
    ((s.setAdm (.sat a) .enable).opDeBlock (.sat a) opDisabled).AdmSound := by
  have hframe := satEnabled_frame s a
  refine hs.of_local ((modifySat_local s a _).trans (deblockSat_local _ a opDisabled))
    (congrArg (fun t : State => t.link.op) hframe :) (congrArg (fun t : State => t.link.adm) hframe :) ?_
  show hasBit ((s.satEnabled a).sat a).op opDisabled = true ↔ ((s.satEnabled a).sat a).adm = .disable
  rw [satEnabled_sat s a ha]
  exact iff_of_false (Bool.eq_false_iff.mp hasBit_andNot_self) fun hc => Adm.noConfusion hc

theorem satDisabled_admSound {a : Nat} (ha : a < s.sats.length) (hs : s.AdmSound) :
    ((s.setAdm (.sat a) .disable).opBlock (.sat a) opDisabled).AdmSound := by
  have hframe := blockOne_sat_frame (s.setAdm (.sat a) .disable) a opDisabled
  have hlen : a < (s.setAdm (.sat a) .disable).sats.length := (modifySat_length s a _).symm ▸ ha
  refine hs.of_local ((modifySat_local s a _).trans (blockOne_local _ a opDisabled))
    (congrArg (fun t : State => t.link.op) hframe :) (congrArg (fun t : State => t.link.adm) hframe :) ?_
  show hasBit (((s.setAdm (.sat a) .disable).blockOne (.sat a) opDisabled).sat a).op opDisabled = true ↔
    (((s.setAdm (.sat a) .disable).blockOne (.sat a) opDisabled).sat a).adm = .disable
  rw [blockOne_sat _ a _ hlen, setAdm_sat s a .disable ha]
  exact iff_of_true (hasBit_or_self (by decide)) rfl

theorem Succeeds.admSound {v : Word} (h : Succeeds s t v) (hshape : s.Shape) (hs : s.AdmSound) : t.AdmSound := by
  cases h with
  | same => exact hs
  | tx | linkThres | linkCounters | consume => exact hs.of_kept (.ofSame rfl rfl rfl) (.ofSame rfl fun _ => rfl)
  | satThres a hi lo =>
    have hrecords : RecordsKept s (s.modifySat a fun x => { x with thresHigh := hi, thresLow := lo }) :=
      .modifySat s a fun _ => ⟨rfl, rfl⟩
    exact hs.of_kept hrecords ((BitsKept.refl _ s).modifySat a fun _ => rfl)
  | satCounters a g _ _ keeps =>
    have hrecords : RecordsKept s (s.modifySat a g) :=
      .modifySat s a fun x => ⟨(congrArg Sat.present (keeps x) :), (congrArg Sat.adm (keeps x) :)⟩
    exact hs.of_kept hrecords
      ((BitsKept.refl _ s).modifySat a fun x => (congrArg (fun y : Sat => y.op &&& opDisabled) (keeps x) :))
  | linkEnable =>
    exact (linkEnabled_admSound hshape hs).of_kept (.afterDeBlock _ _) ((BitsKept.refl _ _).afterDeBlock _)
  | linkDisable => exact linkDisabled_admSound hshape hs
  | satEnable a present =>
    have henabled := satEnabled_admSound (present_lt present).2 hs
    exact henabled.of_kept (.afterDeBlock _ _) ((BitsKept.refl _ _).afterDeBlock _)
  | satDisable a present => exact satDisabled_admSound (present_lt present).2 hs
  | selftest a t _ starts =>
    obtain ⟨_, _, rfl⟩ := selftestStart_ok starts
    exact hs.of_kept (.selftestStarted s a false) ((BitsKept.refl _ s).selftestStarted a false)

theorem Acts.admSound {i : Input} (h : s.Sound) (ha : Acts i s t) : t.AdmSound := by
  have hs := h.adm
  cases ha with
  | none => exact hs
  | command succeeds => exact succeeds.admSound h.shape hs
  | encodes | counts | accepts => exact hs.of_kept (.ofSame rfl rfl rfl) (.ofSame rfl fun _ => rfl)
  | discovers asked =>
    have hbits := discoveryStart_bits asked h.shape (mask := opDisabled) (by decide) (by decide)
    have hstart : s.discoveryStart.AdmSound := by
      obtain ⟨hlink, hsats⟩ := admSound_iff.mp hs
      refine admSound_iff.mpr ⟨?_, fun a => ?_⟩
      · rw [hbits.hasBit_link, discoveryStart_link asked]
        exact hlink
      · rw [hbits.hasBit_sat, discoveryStart_adm asked h.shape]
        exact hsats a
    exact hstart.of_kept (.ofSame rfl rfl rfl) (.ofSame rfl fun _ => rfl)
  | judges =>
    have hread := hs.of_kept (clockRead_records s) (clockRead_bits _ s)
    exact hread.of_kept (.ofOpChange (judged_change s)) (judged_bits (by decide) (by decide))
  | tests => exact hs.of_kept (selftestsStepped_records h.shape) (selftestsStepped_bits h.shape (by decide))
  | aborts =>
    have haborted : s.probeAborted.AdmSound := hs.of_kept (.ofSame rfl rfl rfl) (.ofSame rfl fun _ => rfl)
    exact haborted.of_kept (.ofOpChange (linkFailed_change _)) (linkFailed_bits (by decide) (by decide) (by decide))
  | finishes clears =>
    have hends := discoveryFinish_ends h clears
    obtain ⟨hlink, hsats⟩ := admSound_iff.mp hs
    refine admSound_iff.mpr ⟨?_, fun a => ?_⟩
    · rw [hasBit_of_and_eq (discoveryFinish_link_bits s (by decide) (by decide)), hends.link]
      exact hlink
    · rw [hends.sat]
      split
      · refine iff_of_true ?_ rfl
        show hasBit (if _ then 0x02#5 else 0x06#5) opDisabled = true
        split <;> rfl
      · exact hsats a

end AdmStates

section Cascade

variable {s t : State}

/-! ## The cascade -/

theorem afterDeBlock_link_op (s : State) (e : Entity) : (s.afterDeBlock e).link.op = s.link.op := by
  cases e with
  | link => rfl
  | sat a =>
    rw [afterDeBlock_eq]
    split <;> rfl

theorem setAdm_satPresent (s : State) (e : Entity) (adm : Adm) (a : Nat) :
    (s.setAdm e adm).satPresent a = s.satPresent a := by
  have hframe : CommandFrame s (s.setAdm e adm) := .setAdm e adm
  exact congrArg₂ (fun (p : Config.Params) x => decide (a < p.maxSats) && x) (congrArg State.cfg hframe.frame :)
    (hframe.present a)

theorem Succeeds.cascaded {v : Word} (h : Succeeds s t v) (hshape : s.Shape) (hs : s.Cascaded) : t.Cascaded := by
  have hafter {u : State} {e : Entity} (hu : u.Cascaded) : (u.afterDeBlock e).Cascaded := by
    exact hu.of_kept (RecordsKept.afterDeBlock u e).satPresent (afterDeBlock_link_op u e)
      ((BitsKept.refl _ u).afterDeBlock e) ((BitsKept.refl _ u).afterDeBlock e)
  have hadm {e : Entity} {adm : Adm} : (s.setAdm e adm).Cascaded :=
    hs.of_kept (setAdm_satPresent s e adm) (by cases e <;> rfl) ((BitsKept.refl _ s).setAdm e adm)
      ((BitsKept.refl _ s).setAdm e adm)
  cases h with
  | same => exact hs
  | tx | linkThres | linkCounters | consume =>
    exact hs.of_kept (fun _ => rfl) rfl (.ofSame rfl fun _ => rfl) (.ofSame rfl fun _ => rfl)
  | satThres a hi lo =>
    have hrecords : RecordsKept s (s.modifySat a fun x => { x with thresHigh := hi, thresLow := lo }) :=
      .modifySat s a fun _ => ⟨rfl, rfl⟩
    exact hs.of_kept hrecords.satPresent rfl ((BitsKept.refl _ s).modifySat a fun _ => rfl)
      ((BitsKept.refl _ s).modifySat a fun _ => rfl)
  | satCounters a g _ _ keeps =>
    have hrecords : RecordsKept s (s.modifySat a g) :=
      .modifySat s a fun x => ⟨(congrArg Sat.present (keeps x) :), (congrArg Sat.adm (keeps x) :)⟩
    have hop (mask : OpState) (x : Sat) : (g x).op &&& mask = x.op &&& mask :=
      (congrArg (fun y : Sat => y.op &&& mask) (keeps x) :)
    exact hs.of_kept hrecords.satPresent rfl ((BitsKept.refl _ s).modifySat a (hop _))
      ((BitsKept.refl _ s).modifySat a (hop _))
  | linkEnable => exact hafter (hadm.opDeBlock_link (by decide) (setAdm_shape hshape))
  | linkDisable => exact hadm.opBlock_link (by decide) (by decide) (setAdm_shape hshape)
  | satEnable a => exact hafter (hadm.opDeBlock_sat a (by decide) (by decide))
  | satDisable a => exact hadm.opBlock_sat a (by decide) (by decide)
  | selftest a t _ starts =>
    obtain ⟨_, _, rfl⟩ := selftestStart_ok starts
    exact hs.of_kept (RecordsKept.selftestStarted s a false).satPresent rfl
      ((BitsKept.refl _ s).selftestStarted a false) ((BitsKept.refl _ s).selftestStarted a false)

/-- The checks of BUDGET, one after another. -/
theorem judged_cascaded (hshape : s.Shape) (hs : s.Cascaded) : s.judged.Cascaded := by
  have hread : s.clockRead.Cascaded :=
    hs.of_kept (clockRead_records s).satPresent (by rw [clockRead_link]) (clockRead_bits _ s) (clockRead_bits _ s)
  have hlink : s.linkHighJudged.Cascaded := by
    unfold State.linkHighJudged
    split
    · exact hread.opBlock_link (by decide) (by decide) (clockRead_shape s hshape)
    · exact hread
  have hhigh : s.highJudged.Cascaded :=
    foldl_induct s.linkHighJudged _ (fun a _ _ ht => ht.opBlock_sat a (by decide) (by decide)) hlink
  have hlow : s.linkLowJudged.Cascaded := by
    unfold State.linkLowJudged
    split
    · exact hhigh.opDeBlock_link (by decide) (highJudged_shape s hshape)
    · exact hhigh
  have hlow' : s.lowJudged.Cascaded :=
    foldl_induct s.linkLowJudged _ (fun a _ _ ht => ht.opDeBlock_sat a (by decide) (by decide)) hlow
  rw [judged_eq]
  split
  · exact hlow'
  · exact hhigh

theorem discoveryFinish_cascaded (h : s.Sound) (hclear : s.disc.state = .clear) :
    s.windowEnded.discoveryFinish.Cascaded := by
  have hrunning : s.disc.state ≠ .idle := fun hidle => DiscState.noConfusion (hidle.symm.trans hclear)
  have hnone := (h.discovery.running hrunning).2.2.1
  have hends := discoveryFinish_ends h hclear
  have hcfg : s.windowEnded.discoveryFinish.cfg = s.cfg := (congrArg State.cfg hends.frame :)
  have hnever := satNever_iff.mp h.cascaded.satNever
  refine ⟨fun a hp => ?_, ?_, satNever_iff.mpr fun a => ?_⟩
  · have hfound : a < s.disc.result.toNat := by
      by_contra hbeyond
      rw [State.satPresent, hcfg, hends.sat, if_neg hbeyond] at hp
      exact Bool.false_ne_true ((hnone a).symm.trans hp)
    rw [hends.sat, if_pos hfound]
    show hasBit (if _ then 0x02#5 else 0x06#5) opControlBlocked = true ↔ _
    split
    · rename_i hzero
      exact iff_of_false (by decide) fun hne => hne hzero
    · rename_i hne
      exact iff_of_true (by decide) hne
  · rw [hasBit_of_and_eq (discoveryFinish_link_bits s (by decide) (by decide))]
    exact h.cascaded.linkNever
  · rw [hends.sat]
    split
    · show hasBit (if _ then 0x02#5 else 0x06#5) opInit = false
      split <;> rfl
    · exact hnever a

theorem Acts.cascaded {i : Input} (h : s.Sound) (ha : Acts i s t) : t.Cascaded := by
  have hs := h.cascaded
  have hnever := satNever_iff.mp hs.satNever
  cases ha with
  | none => exact hs
  | command succeeds => exact succeeds.cascaded h.shape hs
  | encodes | counts | accepts =>
    exact hs.of_kept (fun _ => rfl) rfl (.ofSame rfl fun _ => rfl) (.ofSame rfl fun _ => rfl)
  | discovers asked =>
    have hstart : s.discoveryStart.Cascaded := by
      refine .of_none (discoveryStart_satPresent asked h.shape) ?_ fun a => ?_
      · rw [discoveryStart_link asked, hasBit_of_and_eq (or_and_of_outside (by decide))]
        exact hs.linkNever
      · rcases discoveryStart_op asked h.shape a with hop | hop
        · rw [hop]
          exact hnever a
        · rw [hop, hasBit_of_and_eq (or_and_of_outside (by decide))]
          exact hnever a
    exact hstart.of_kept (fun _ => rfl) rfl (.ofSame rfl fun _ => rfl) (.ofSame rfl fun _ => rfl)
  | judges => exact judged_cascaded h.shape hs
  | tests =>
    have hframe := selftestsStepped_frame s s.sats s.slots s.evq s.evOvf
    exact hs.of_kept (selftestsStepped_records h.shape).satPresent (congrArg (fun t : State => t.link.op) hframe :)
      (selftestsStepped_bits h.shape (by decide)) (selftestsStepped_bits h.shape (by decide))
  | aborts probes =>
    have hrunning : s.disc.state ≠ .idle := fun hidle => DiscState.noConfusion (hidle.symm.trans probes)
    have haborted : s.probeAborted.Cascaded :=
      hs.of_kept (fun _ => rfl) rfl (.ofSame rfl fun _ => rfl) (.ofSame rfl fun _ => rfl)
    have hshape : s.probeAborted.Shape := { h.shape with slots := (List.length_map _).trans h.shape.slots }
    have hblocked := haborted.opBlock_link (flag := opFail) (by decide) (by decide) hshape
    exact hblocked.opDeBlock_link (by decide) (((OpChange.refl _).opBlock _ _).shape hshape)
  | finishes clears => exact discoveryFinish_cascaded h clears

end Cascade

section ErrorSecondKept

variable {s t : State}

/-! ## ERROR_SECOND -/

/-- Commands set and clear DISABLED, and CONTROL_BLOCKED in its cascades. -/
theorem Succeeds.bits {v : Word} (h : Succeeds s t v) {mask : OpState} (hdisabled : opDisabled &&& mask = 0)
    (hblocked : opControlBlocked &&& mask = 0) : BitsKept mask s t := by
  have hs := BitsKept.refl mask s
  cases h with
  | same => exact hs
  | tx | linkThres | linkCounters | consume => exact .ofSame rfl fun _ => rfl
  | satThres a => exact hs.modifySat a fun _ => rfl
  | satCounters a g _ _ keeps =>
    exact hs.modifySat a fun x => (congrArg (fun y : Sat => y.op &&& mask) (keeps x) :)
  | linkEnable | satEnable => exact ((hs.setAdm _ _).opDeBlock hdisabled hblocked _).afterDeBlock _
  | linkDisable | satDisable => exact (hs.setAdm _ _).opBlock hdisabled hblocked _
  | selftest a t _ starts =>
    obtain ⟨_, _, rfl⟩ := selftestStart_ok starts
    exact hs.selftestStarted a false

/-- Only BUDGET writes ERROR_SECOND of the Link and of the satellites that exist. -/
theorem Acts.errorSecond {i : Input} (h : s.Sound) (hinput : ¬ (i = .scan ∧ s.scanPhase = .budget)) (ha : Acts i s t) :
    hasBit t.link.op opErrorSecond = hasBit s.link.op opErrorSecond
      ∧ ∀ a, s.satPresent a = true → hasBit (t.sat a).op opErrorSecond = hasBit (s.sat a).op opErrorSecond := by
  have hkept {v : State} (hv : BitsKept opErrorSecond s v) :
      hasBit v.link.op opErrorSecond = hasBit s.link.op opErrorSecond
        ∧ ∀ a, s.satPresent a = true → hasBit (v.sat a).op opErrorSecond = hasBit (s.sat a).op opErrorSecond :=
    ⟨hv.hasBit_link, fun a _ => hv.hasBit_sat a⟩
  cases ha with
  | none => exact hkept (.refl _ s)
  | command succeeds => exact hkept (succeeds.bits (by decide) (by decide))
  | encodes | counts | accepts => exact hkept (.ofSame rfl fun _ => rfl)
  | discovers asked =>
    exact hkept ((discoveryStart_bits asked h.shape (by decide) (by decide)).trans (.ofSame rfl fun _ => rfl))
  | judges hscan hphase => exact absurd ⟨hscan, hphase⟩ hinput
  | tests => exact hkept (selftestsStepped_bits h.shape (by decide))
  | aborts =>
    have haborted : BitsKept opErrorSecond s s.probeAborted := .ofSame rfl fun _ => rfl
    exact hkept (haborted.trans (linkFailed_bits (by decide) (by decide) (by decide)))
  | finishes clears =>
    have hrunning : s.disc.state ≠ .idle := fun hidle => DiscState.noConfusion (hidle.symm.trans clears)
    refine ⟨hasBit_of_and_eq (discoveryFinish_link_bits s (by decide) (by decide)), fun a hp => ?_⟩
    rw [(h.discovery.running hrunning).2.2.1 a] at hp
    cases hp

end ErrorSecondKept

end Sys2Proof.Machine

section EntityStatements

open Sys2Proof Sys2Proof.Machine

/-- Settles O57. -/
theorem stepKeepsTheCascade : Obligations.StepKeepsTheCascade := by
  intro s t h hstep
  rcases step_acts h hstep with ⟨-, rfl⟩ | ⟨v, hacts, hquiet⟩
  · exact (resetInput_sound (inputTaken_sound h).shape.legal).cascaded
  · have hv := hacts.cascaded (inputTaken_sound h)
    exact hv.of_kept hquiet.satPresent hquiet.linkOp (.ofQuiet _ hquiet) (.ofQuiet _ hquiet)

/-- Settles O56. -/
theorem stepKeepsThresholdsAndAdmStates : Obligations.StepKeepsThresholdsAndAdmStates := by
  intro s t h hstep
  rcases step_acts h hstep with ⟨-, rfl⟩ | ⟨v, hacts, hquiet⟩
  · have hreset := resetInput_sound (inputTaken_sound h).shape.legal
    exact ⟨hreset.thresholds, hreset.adm⟩
  · have hu := inputTaken_sound h
    exact ⟨(ThresholdsKept.ofQuiet hquiet).ordered (hacts.thresholds hu),
      (hacts.admSound hu).of_kept (.ofQuiet hquiet) (.ofQuiet _ hquiet)⟩

/-- Settles O44: BUDGET's own statement gives the one case in which the bit changes. -/
theorem onlyABoundaryClearsErrorSecond : Obligations.OnlyABoundaryClearsErrorSecond := by
  intro s t h hstep
  by_cases hbudget : s.input = .scan ∧ s.scanPhase = .budget
  · obtain ⟨hinput, hphase⟩ := hbudget
    obtain ⟨v, hv, -, -, -, ⟨hlink, hsat, -⟩, -⟩ := budgetFollowsTheThresholds s h.shape h.thresholds hinput hphase
    cases hstep.symm.trans hv
    refine ⟨fun hset hclear => .inr ⟨hinput, hphase, ?_⟩, fun a hp hset hclear => .inr ⟨hinput, hphase, ?_⟩⟩
    · rw [hlink, if_pos hset] at hclear
      simpa using hclear
    · rw [hsat a hp, if_pos hset] at hclear
      simpa using hclear
  · rcases step_acts h hstep with ⟨hreset, -⟩ | ⟨v, hacts, hquiet⟩
    · exact ⟨fun _ _ => .inl hreset, fun _ _ _ _ => .inl hreset⟩
    · have hbits := BitsKept.ofQuiet opErrorSecond hquiet
      obtain ⟨hlink, hsat⟩ := hacts.errorSecond (inputTaken_sound h) (by rwa [inputTaken_scanPhase])
      refine ⟨fun hset hclear => ?_, fun a hp hset hclear => ?_⟩
      · refine absurd (hclear.symm.trans (hbits.hasBit_link.trans (hlink.trans ?_))) Bool.false_ne_true
        rwa [inputTaken_link]
      · refine absurd (hclear.symm.trans ((hbits.hasBit_sat a).trans ((hsat a ?_).trans ?_))) Bool.false_ne_true
        · rwa [inputTaken_satPresent]
        · rwa [inputTaken_sat]

end EntityStatements

/-! # Discovery, test modes, self-tests, requests and the wire at every step
(spec/10_state.md R30 to R36, R44, spec/43_discovery.md R201)

`Sequenced` is the five invariants at every address; `Undisturbed` is what an act leaves alone that runs none of the
sequencers, and it keeps them all. The other acts are taken one by one. -/

namespace Sys2Proof.Machine

section Bundle

variable {s t u : State}

/-- The invariants of the sequencers and of the wire, at every address. -/
structure State.Sequenced (s : State) : Prop where
  discovery : s.DiscoverySound
  counts : ∀ i k, ((s.slot i).tm.get k).inRange s.cfg.nDeact
  inactive : ∀ i, s.activeSlots ≤ i → ∀ k, (s.slot i).tm.get k = .inactive
  running : ∀ a, (s.sat a).stPhase ≠ .idle →
    (s.sat a).present = true ∧ 1 ≤ (s.sat a).stCnt.toNat ∧ (s.sat a).stCnt.toNat ≤ s.cfg.selftestPhaseCycles
  atRest : ∀ a, (s.sat a).stPhase = .idle → (s.sat a).stCnt = 0 ∧ (s.sat a).stImplicit = false
  requests : ∀ i, i < s.slots.length → (s.slot i).txReq = s.expectedRequests i
  wire : ∀ i, (s.slot i).txDirty = false → (s.slot i).Current s.cfg i (s.satWorking i)

theorem slot_of_getElem? {i : Nat} {sl : Slot} (h : s.slots[i]? = some sl) : s.slot i = sl := by
  rw [State.slot, h]
  rfl

theorem sequenced_of_sound (h : s.Sound) : s.Sequenced where
  discovery := h.discovery
  counts := inRange_of_modesSound h.modes
  inactive := h.modes.inactive
  running _ := sat_lt_of_running h.selftests
  atRest a := forall_sats (P := fun x => x.stPhase = .idle → x.stCnt = 0 ∧ x.stImplicit = false) h.selftests.atRest
    (fun _ => ⟨rfl, rfl⟩) a
  requests i hi := h.requests i _ (slots_getElem? hi)
  wire _ := current_of_clean h.wire

namespace State.Sequenced

variable (h : s.Sequenced)
include h

theorem modesSound : s.ModesSound where
  counts sl hsl := by
    obtain ⟨i, hi⟩ := List.mem_iff_getElem?.mp hsl
    rw [← slot_of_getElem? hi]
    exact h.counts i
  inactive := h.inactive

theorem selftestsSound : s.SelftestsSound where
  running := (forall_sats_iff (P := fun x => x.stPhase ≠ .idle → x.present = true ∧ 1 ≤ x.stCnt.toNat
    ∧ x.stCnt.toNat ≤ s.cfg.selftestPhaseCycles) fun hne => absurd rfl hne).mpr h.running
  atRest := (forall_sats_iff (P := fun x => x.stPhase = .idle → x.stCnt = 0 ∧ x.stImplicit = false)
    fun _ => ⟨rfl, rfl⟩).mpr h.atRest

theorem requestsSound : s.RequestsSound := fun i sl hsl => by
  have hi : i < s.slots.length := (List.getElem?_eq_some_iff.mp hsl).1
  rw [← slot_of_getElem? hsl]
  exact h.requests i hi

theorem wireCurrent : s.WireCurrent := wireCurrent_iff.mpr fun i sl hsl hclean => by
  rw [← slot_of_getElem? hsl] at hclean ⊢
  exact h.wire i hclean

end State.Sequenced

/-- No sequencer runs from `s` to `t`, and a slot that stays clean keeps what its frame encodes. -/
structure Undisturbed (s t : State) : Prop where
  cfg : t.cfg = s.cfg
  disc : t.disc = { s.disc with pending := t.disc.pending }
  activeSlots : t.activeSlots = s.activeSlots
  init : s.disc.state ≠ .idle → hasBit t.link.op opInit = hasBit s.link.op opInit
  slotsLength : t.slots.length = s.slots.length
  present : ∀ a, (t.sat a).present = (s.sat a).present
  stPhase : ∀ a, (t.sat a).stPhase = (s.sat a).stPhase
  stCnt : ∀ a, (t.sat a).stCnt = (s.sat a).stCnt
  stImplicit : ∀ a, (t.sat a).stImplicit = (s.sat a).stImplicit
  txReq : ∀ i, (t.slot i).txReq = (s.slot i).txReq
  tm : ∀ i, (t.slot i).tm = (s.slot i).tm
  clean : ∀ i, (t.slot i).txDirty = false →
    (s.slot i).txDirty = false ∧ (t.sat i).op = (s.sat i).op
      ∧ { t.slot i with rxBytes := (s.slot i).rxBytes, status := (s.slot i).status } = s.slot i

theorem Undisturbed.ofQuiet (h : Quiet s t) : Undisturbed s t where
  cfg := h.cfg
  disc := h.disc
  activeSlots := h.activeSlots
  init _ := by rw [h.linkOp]
  slotsLength := h.slotsLength
  present a := (congrArg Sat.present (h.sat a) :)
  stPhase a := (congrArg Sat.stPhase (h.sat a) :)
  stCnt a := (congrArg Sat.stCnt (h.sat a) :)
  stImplicit a := (congrArg Sat.stImplicit (h.sat a) :)
  txReq i := (congrArg Slot.txReq (h.slot i) :)
  tm i := (congrArg Slot.tm (h.slot i) :)
  clean i hc := ⟨(congrArg Slot.txDirty (h.slot i) :).symm.trans hc, (congrArg Sat.op (h.sat i) :), h.slot i⟩

theorem Undisturbed.ofOpChange (h : OpChange s t)
    (hinit : s.disc.state ≠ .idle → hasBit t.link.op opInit = hasBit s.link.op opInit) : Undisturbed s t where
  cfg := h.cfg
  disc := by rw [h.disc]
  activeSlots := h.activeSlots
  init := hinit
  slotsLength := h.slotsLength
  present := h.present
  stPhase := h.stPhase
  stCnt := h.stCnt
  stImplicit := h.stImplicit
  txReq i := (congrArg Slot.txReq (h.slot i) :)
  tm i := (congrArg Slot.tm (h.slot i) :)
  clean i hc := by
    obtain ⟨hclean, hop⟩ := h.clean i hc
    refine ⟨hclean, hop, ?_⟩
    have hslot := h.slot i
    rw [hclean, ← hc] at hslot
    exact congrArg (fun sl : Slot => { sl with rxBytes := (s.slot i).rxBytes, status := (s.slot i).status }) hslot

theorem Undisturbed.trans (h : Undisturbed s t) (h' : Undisturbed t u) : Undisturbed s u where
  cfg := h'.cfg.trans h.cfg
  disc := h'.disc.trans (by rw [h.disc])
  activeSlots := h'.activeSlots.trans h.activeSlots
  init hne := (h'.init (by rw [h.disc]; exact hne)).trans (h.init hne)
  slotsLength := h'.slotsLength.trans h.slotsLength
  present a := (h'.present a).trans (h.present a)
  stPhase a := (h'.stPhase a).trans (h.stPhase a)
  stCnt a := (h'.stCnt a).trans (h.stCnt a)
  stImplicit a := (h'.stImplicit a).trans (h.stImplicit a)
  txReq i := (h'.txReq i).trans (h.txReq i)
  tm i := (h'.tm i).trans (h.tm i)
  clean i hc := by
    obtain ⟨ht, hop', hslot'⟩ := h'.clean i hc
    obtain ⟨hs, hop, hslot⟩ := h.clean i ht
    exact ⟨hs, hop'.trans hop, (congrArg (fun sl : Slot =>
      { sl with rxBytes := (s.slot i).rxBytes, status := (s.slot i).status }) hslot').trans hslot⟩

section Kept

variable (h : Undisturbed s t)
include h

theorem Undisturbed.satPresent (a : Nat) : t.satPresent a = s.satPresent a :=
  congrArg₂ (fun (p : Config.Params) x => decide (a < p.maxSats) && x) h.cfg (h.present a)

theorem Undisturbed.discovery (hs : s.DiscoverySound) : t.DiscoverySound := by
  have hstate : t.disc.state = s.disc.state := by rw [h.disc]
  have hcnt : t.disc.cnt = s.disc.cnt := by rw [h.disc]
  have hresult : t.disc.result = s.disc.result := by rw [h.disc]
  constructor
  · rw [hstate, hcnt, h.activeSlots, h.cfg]
    intro hrunning
    obtain ⟨hinit, hactive, hnone, hmore⟩ := hs.running hrunning
    exact ⟨(h.init hrunning).trans hinit, hactive, fun a => (h.satPresent a).trans (hnone a), hmore⟩
  · rw [hstate, hcnt, h.cfg]
    exact hs.probe
  · rw [hstate, hcnt, hresult, h.cfg]
    exact hs.clear
  · rw [hstate, h.activeSlots, h.cfg]
    intro hidle
    obtain ⟨hmax, hexist⟩ := hs.idle hidle
    exact ⟨hmax, fun a => by rw [h.satPresent]; exact hexist a⟩

theorem Undisturbed.sequenced (hs : s.Sequenced) : t.Sequenced where
  discovery := h.discovery hs.discovery
  counts i k := by
    rw [h.tm, h.cfg]
    exact hs.counts i k
  inactive i hi k := by
    rw [h.tm]
    exact hs.inactive i (h.activeSlots ▸ hi) k
  running a := by
    rw [h.stPhase, h.present, h.stCnt, h.cfg]
    exact hs.running a
  atRest a := by
    rw [h.stPhase, h.stCnt, h.stImplicit]
    exact hs.atRest a
  requests i hi := by
    have hstate : t.disc.state = s.disc.state := by rw [h.disc]
    rw [h.txReq, State.expectedRequests, hstate, h.stPhase]
    exact hs.requests i (h.slotsLength ▸ hi)
  wire i hclean := by
    obtain ⟨hclean', hop, hslot⟩ := h.clean i hclean
    have hworking : t.satWorking i = s.satWorking i := by
      rw [State.satWorking, State.satWorking, h.satPresent, hop]
    obtain ⟨hencoded, hresolved⟩ := hs.wire i hclean'
    rw [← hslot, ← h.cfg, ← hworking] at hencoded
    rw [← hslot] at hresolved
    exact ⟨hencoded, hresolved⟩

end Kept

end Bundle

section Commands

variable {s t u : State}

theorem Undisturbed.setLink (s : State) {l : LinkRegs} (hop : l.op = s.link.op) (hno : l.noOfSats = s.link.noOfSats) :
    Undisturbed s (s.setLink l) where
  cfg := rfl
  disc := rfl
  activeSlots := congrArg BitVec.toNat hno
  init _ := congrArg (hasBit · opInit) hop
  slotsLength := rfl
  present _ := rfl
  stPhase _ := rfl
  stCnt _ := rfl
  stImplicit _ := rfl
  txReq _ := rfl
  tm _ := rfl
  clean _ hc := ⟨hc, rfl, rfl⟩

theorem Undisturbed.modifySat (s : State) (a : Nat) {g : Sat → Sat}
    (hg : ∀ x, (g x).present = x.present ∧ (g x).op = x.op ∧ (g x).stPhase = x.stPhase ∧ (g x).stCnt = x.stCnt
      ∧ (g x).stImplicit = x.stImplicit) : Undisturbed s (s.modifySat a g) := by
  have hsat (c : Nat) : (s.modifySat a g).sat c = g (s.sat c) ∨ (s.modifySat a g).sat c = s.sat c := by
    rw [sat_modifySat]
    split
    · exact .inl rfl
    · exact .inr rfl
  have hkept {β : Type} (f : Sat → β) (hf : ∀ x, f (g x) = f x) (c : Nat) :
      f ((s.modifySat a g).sat c) = f (s.sat c) := by
    rcases hsat c with hc | hc
    · rw [hc, hf]
    · rw [hc]
  exact ⟨rfl, rfl, rfl, fun _ => rfl, rfl, hkept Sat.present fun x => (hg x).1,
    hkept Sat.stPhase fun x => (hg x).2.2.1, hkept Sat.stCnt fun x => (hg x).2.2.2.1,
    hkept Sat.stImplicit fun x => (hg x).2.2.2.2, fun _ => rfl, fun _ => rfl,
    fun i hc => ⟨hc, hkept Sat.op (fun x => (hg x).2.1) i, rfl⟩⟩

/-- A write of the fields that commands write marks the slot dirty. -/
theorem Undisturbed.writeTx (s : State) (a : Nat) {g : Slot → Slot}
    (hg : ∀ sl, (g sl).txReq = sl.txReq ∧ (g sl).tm = sl.tm) : Undisturbed s (s.writeTx a g) := by
  have hslot (i : Nat) : (s.writeTx a g).slot i = _ := slot_modifySlot s a i fun sl => { g sl with txDirty := true }
  refine ⟨rfl, rfl, rfl, fun _ => rfl, modifySlot_length s a _, fun _ => rfl, fun _ => rfl, fun _ => rfl,
    fun _ => rfl, fun i => ?_, fun i => ?_, fun i hc => ?_⟩
  · rw [hslot]
    split
    · exact (hg _).1
    · rfl
  · rw [hslot]
    split
    · exact (hg _).2
    · rfl
  · rw [hslot] at hc ⊢
    split at hc
    · cases hc
    · rename_i hne
      rw [if_neg hne]
      exact ⟨hc, rfl, rfl⟩

theorem Undisturbed.setAdm (s : State) (e : Entity) (adm : Adm) : Undisturbed s (s.setAdm e adm) := by
  cases e with
  | link => exact .setLink s rfl rfl
  | sat a => exact .modifySat s a fun _ => ⟨rfl, rfl, rfl, rfl, rfl⟩

theorem Undisturbed.opBlock (s : State) (e : Entity) {flag : OpState} (h : flag &&& opInit = 0) :
    Undisturbed s (s.opBlock e flag) :=
  .ofOpChange ((OpChange.refl s).opBlock e flag) fun _ =>
    ((BitsKept.refl opInit s).opBlock h (by decide) e).hasBit_link

theorem Undisturbed.opDeBlock (s : State) (e : Entity) {flag : OpState} (h : flag &&& opInit = 0) :
    Undisturbed s (s.opDeBlock e flag) :=
  .ofOpChange ((OpChange.refl s).opDeBlock e flag) fun _ =>
    ((BitsKept.refl opInit s).opDeBlock h (by decide) e).hasBit_link

/-- Where a satellite exists discovery does not run. -/
theorem idle_of_present (h : s.DiscoverySound) {a : Nat} (hp : s.satPresent a = true) : s.disc.state = .idle := by
  by_contra hrunning
  exact Bool.false_ne_true (((h.running hrunning).2.2.1 a).symm.trans hp)

theorem expectedRequests_of_not_probe (h : s.disc.state ≠ .probe) (i : Nat) :
    s.expectedRequests i = (s.sat i).stPhase.requests := if_neg h

theorem selftestStarted_sequenced (hshape : s.Shape) (h : s.Sequenced) {a : Nat} (implicit : Bool)
    (hp : s.satPresent a = true) (hidle : (s.sat a).stPhase = .idle) : (s.selftestStarted a implicit).Sequenced := by
  let t := s.selftestStarted a implicit
  have ha := (present_lt hp).2
  have hdisc := idle_of_present h.discovery hp
  have hsat := selftestStarted_sat implicit ha
  have hslot := selftestStarted_slot implicit (present_slot_lt hshape hp)
  have hsat' {c : Nat} (hc : c ≠ a) : t.sat c = s.sat c := by
    rw [State.sat, (selftestStarted_of_ne implicit hc).2]
    rfl
  have hslot' {c : Nat} (hc : c ≠ a) : t.slot c = s.slot c := by
    rw [State.slot, (selftestStarted_of_ne implicit hc).1]
    rfl
  have hrecords := RecordsKept.selftestStarted s a implicit
  have htm (i : Nat) : (t.slot i).tm = (s.slot i).tm := by
    by_cases hi : i = a
    · rw [hi, hslot]
    · rw [hslot' hi]
  have hdiscovery : t.DiscoverySound := by
    obtain ⟨hrunning, hprobe, hclear, hidle'⟩ := h.discovery
    refine ⟨fun hr => absurd hdisc hr, hprobe, hclear, fun hi => ?_⟩
    obtain ⟨hmax, hexist⟩ := hidle' hi
    exact ⟨hmax, fun c => by rw [hrecords.satPresent]; exact hexist c⟩
  have hcycles := (registerRanges hshape.legal).phaseCycles
  have hcnt : (BitVec.ofNat 16 s.cfg.selftestPhaseCycles).toNat = s.cfg.selftestPhaseCycles := by
    rw [BitVec.toNat_ofNat]
    omega
  refine ⟨hdiscovery, fun i k => ?counts, fun i hi k => ?inactive, fun c hr => ?running, fun c hr => ?atRest,
    fun i hi => ?requests, fun i hclean => ?wire⟩
  case counts =>
    rw [htm]
    exact h.counts i k
  case inactive =>
    rw [htm]
    exact h.inactive i hi k
  case running =>
    by_cases hc : c = a
    · rw [hc, hsat]
      exact ⟨(Bool.and_eq_true_iff.mp hp).2, hcnt.symm ▸ hcycles.1, hcnt.le⟩
    · rw [hsat' hc] at hr ⊢
      exact h.running c hr
  case atRest =>
    by_cases hc : c = a
    · rw [hc, hsat] at hr
      cases hr
    · rw [hsat' hc] at hr ⊢
      exact h.atRest c hr
  case requests =>
    have hrequest := h.requests i ((modifySlot_length s a _) ▸ hi)
    rw [expectedRequests_of_not_probe (hdisc ▸ DiscState.noConfusion)] at hrequest
    rw [expectedRequests_of_not_probe (show t.disc.state ≠ .probe from hdisc ▸ DiscState.noConfusion)]
    by_cases hc : i = a
    · rw [hc] at hrequest ⊢
      rw [hslot, hsat, hrequest, hidle]
      rfl
    · rw [hslot' hc, hsat' hc]
      exact hrequest
  case wire =>
    by_cases hi : i = a
    · rw [hi, hslot] at hclean
      cases hclean
    · rw [hslot' hi] at hclean ⊢
      have hworking : t.satWorking i = s.satWorking i := by
        rw [State.satWorking, State.satWorking, hrecords.satPresent, hsat' hi]
      rw [hworking]
      exact h.wire i hclean

/-- Of the commands SATENABLE and SELFTEST start a self-test; the others run no sequencer. -/
theorem Succeeds.sequenced {v : Word} (hs : Succeeds s t v) (hshape : s.Shape) (h : s.Sequenced) : t.Sequenced := by
  have hkept {w : State} (hw : Undisturbed s w) : w.Sequenced := hw.sequenced h
  cases hs with
  | same => exact h
  | tx a g _ keeps =>
    refine hkept (.writeTx s a fun sl => ?_)
    exact ⟨(congrArg Slot.txReq (keeps sl) :), (congrArg Slot.tm (keeps sl) :)⟩
  | linkThres | linkCounters =>
    apply hkept
    exact .setLink s rfl rfl
  | satThres a =>
    apply hkept
    exact .modifySat s a fun _ => ⟨rfl, rfl, rfl, rfl, rfl⟩
  | satCounters a g _ _ keeps => exact hkept (.ofQuiet ((Quiet.refl s).modifySat a keeps))
  | consume a =>
    apply hkept
    exact .ofQuiet ((Quiet.refl s).modifySlot a fun _ => rfl)
  | linkEnable =>
    have hfreed := (Undisturbed.setAdm s .link .enable).trans (.opDeBlock _ .link (flag := opDisabled) (by decide))
    refine hkept (hfreed.trans (.ofQuiet ?_))
    exact .ofSame rfl rfl rfl rfl rfl
  | linkDisable => exact hkept ((Undisturbed.setAdm s .link .disable).trans (.opBlock _ .link (by decide)))
  | satDisable a => exact hkept ((Undisturbed.setAdm s (.sat a) .disable).trans (.opBlock _ (.sat a) (by decide)))
  | satEnable a present =>
    let u := (s.setAdm (.sat a) .enable).opDeBlock (.sat a) opDisabled
    have hfreed : Undisturbed s u := (Undisturbed.setAdm s (.sat a) .enable).trans (.opDeBlock _ (.sat a) (by decide))
    have hushape : u.Shape := ((OpChange.refl _).opDeBlock _ _).shape (setAdm_shape hshape)
    rw [afterDeBlock_eq]
    split
    · rename_i hstarts
      exact selftestStarted_sequenced hushape (hkept hfreed) true ((hfreed.satPresent a).trans present) hstarts.1
    · exact hkept hfreed
  | selftest a t present starts =>
    obtain ⟨hidle, _, rfl⟩ := selftestStart_ok starts
    exact selftestStarted_sequenced hshape h false present hidle

end Commands

section Encoding

variable {s t : State}

theorem encodeSlots_sequenced (hlegal : s.cfg.legal = true) (h : s.Sequenced) :
    s.countdownModes.encodeSlots.Sequenced := by
  let t := s.countdownModes.encodeSlots
  have hlen : t.slots.length = s.slots.length := encodeSlots_slots_length s
  have hslot (i : Nat) : t.slot i = s.slot i ∨ i < s.activeSlots
      ∧ t.slot i = (s.slot i).afterEncode s.cfg i (s.satWorking i) := by
    by_cases hi : i < s.slots.length
    · have hencoded := encodeSlots_slot s i hi
      by_cases hactive : i < s.activeSlots
      · rw [if_pos hactive] at hencoded
        exact .inr ⟨hactive, hencoded⟩
      · rw [if_neg hactive] at hencoded
        exact .inl hencoded
    · exact .inl ((slot_of_le (hlen.symm ▸ Nat.not_lt.mp hi)).trans (slot_of_le (Nat.not_lt.mp hi)).symm)
  refine ⟨{ h.discovery with }, fun i k => ?counts, fun i hi k => ?inactive, h.running, h.atRest,
    fun i hi => ?requests, fun i hclean => ?wire⟩
  case counts =>
    rcases hslot i with hsame | ⟨-, hencoded⟩
    · rw [hsame]
      exact h.counts i k
    · rw [hencoded]
      exact afterEncode_inRange hlegal k (h.counts i k)
  case inactive =>
    rcases hslot i with hsame | ⟨hactive, -⟩
    · rw [hsame]
      exact h.inactive i hi k
    · exact absurd hactive (Nat.not_lt.mpr hi)
  case requests =>
    have hrequest := h.requests i (hlen ▸ hi)
    rcases hslot i with hsame | ⟨-, hencoded⟩
    · rw [hsame]
      exact hrequest
    · rw [hencoded]
      exact (congrArg Slot.txReq (afterEncode_frame (p := s.cfg) (i := i) (working := s.satWorking i)) :).trans hrequest
  case wire =>
    rcases hslot i with hsame | ⟨-, hencoded⟩
    · rw [hsame] at hclean ⊢
      exact h.wire i hclean
    · rw [hencoded]
      exact afterEncode_current (h.wire i)

end Encoding

section DiscoverySteps

variable {s t : State}

theorem ne_zero_of_one_le_toNat {w : Nat} {v : BitVec w} (h : 1 ≤ v.toNat) : v ≠ 0 := by
  rintro rfl
  exact absurd h (by simp)

/-- Every slot is the probe's: dirty, out of its test modes, with the server test requested. -/
theorem discoveryStart_slot (hasked : s.disc.pending = true) {i : Nat} (hi : i < s.slots.length) :
    s.discoveryStart.slot i = (s.slot i).probing := slot_of_map (discoveryStart_slots hasked) hi

theorem idle_of_absent (hshape : s.Shape) (h : s.Sequenced) {a : Nat} (hp : s.satPresent a = false) :
    (s.sat a).stPhase = .idle := by
  rcases satPresent_eq_false_iff.mp hp with hle | habsent
  · rw [sat_of_le (hshape.sats ▸ hle)]
    rfl
  · by_contra hrunning
    exact Bool.false_ne_true (habsent.symm.trans (h.running a hrunning).1)

theorem discoveryStart_sequenced (hshape : s.Shape) (h : s.Sequenced) (hasked : s.disc.pending = true) :
    s.discoveryStart.Sequenced := by
  have hsettle := (registerRanges hshape.legal).settleCycles
  have hcfg := discoveryStart_cfg hasked
  have hdisc := discoveryStart_disc hasked
  have hlen : s.discoveryStart.slots.length = s.slots.length := by
    rw [discoveryStart_slots hasked, List.length_map]
  have hcnt : (BitVec.ofNat 16 (2 * s.cfg.settleCycles)).toNat = 2 * s.cfg.settleCycles := by
    rw [BitVec.toNat_ofNat]
    omega
  have hslot (i : Nat) : s.discoveryStart.slot i = (s.slot i).probing ∨ s.discoveryStart.slot i = Slot.reset := by
    by_cases hi : i < s.slots.length
    · exact .inl (discoveryStart_slot hasked hi)
    · exact .inr (slot_of_le (hlen.symm ▸ Nat.not_lt.mp hi))
  have htm (i : Nat) (k : TestKind) : (s.discoveryStart.slot i).tm.get k = .inactive := by
    rcases hslot i with hi | hi <;> rw [hi] <;> cases k <;> rfl
  have hidle (a : Nat) : (s.discoveryStart.sat a).stPhase = .idle := by
    rw [discoveryStart_sat hasked hshape]
    split
    · rfl
    · rename_i hp
      exact idle_of_absent hshape h (Bool.eq_false_iff.mpr hp)
  refine ⟨?discovery, fun i k => ?counts, fun i _ k => htm i k, fun a hr => absurd (hidle a) hr, fun a _ => ?atRest,
    fun i hi => ?requests, fun i hclean => ?wire⟩
  case discovery =>
    constructor
    · refine fun _ => ⟨?_, ?_, discoveryStart_satPresent hasked hshape, ?_⟩
      · rw [discoveryStart_link hasked]
        exact hasBit_or_self (by decide)
      · rw [hcfg]
        exact discoveryStart_activeSlots hasked hshape
      · rw [hdisc]
        exact ne_zero_of_one_le_toNat (by rw [hcnt]; omega)
    · rw [hdisc, hcfg]
      exact fun _ => hcnt.le
    · rw [hdisc]
      exact fun hc => DiscState.noConfusion hc
    · rw [hdisc]
      exact fun hc => DiscState.noConfusion hc
  case counts =>
    rw [htm]
    trivial
  case atRest =>
    rw [discoveryStart_sat hasked hshape]
    split
    · show (if (s.sat a).stPhase = .idle then (s.sat a).stCnt else 0) = 0
        ∧ (if (s.sat a).stPhase = .idle then (s.sat a).stImplicit else false) = false
      split
      · exact h.atRest a ‹_›
      · exact ⟨rfl, rfl⟩
    · rename_i hp
      exact h.atRest a (idle_of_absent hshape h (Bool.eq_false_iff.mpr hp))
  case requests =>
    rw [discoveryStart_slot hasked (hlen ▸ hi), State.expectedRequests, hdisc]
    rfl
  case wire =>
    rcases hslot i with hi | hi <;> rw [hi] at hclean <;> cases hclean

theorem countedDown_sequenced (h : s.Sequenced) (hrunning : s.disc.state ≠ .idle) (hmore : s.disc.cnt ≠ 1) :
    (s.setDisc { s.disc with cnt := s.disc.cnt - 1 }).Sequenced := by
  obtain ⟨hrun, hprobe, hclear, hidle⟩ := h.discovery
  obtain ⟨hinit, hactive, hnone, hne⟩ := hrun hrunning
  have hsub : (s.disc.cnt - 1).toNat ≤ s.disc.cnt.toNat := by
    bv_omega
  refine { h with discovery := ⟨fun _ => ⟨hinit, hactive, hnone, fun hzero => hmore (sub_eq_zero.mp hzero)⟩,
    fun hp => hsub.trans (hprobe hp), fun hc => ⟨hsub.trans (hclear hc).1, (hclear hc).2⟩,
    fun hi => absurd hi hrunning⟩ }

/-- While discovery probes, the requests are the probe's, so withdrawing its own leaves none. -/
theorem withdrawn_requests (h : s.Sequenced) (hstate : s.disc.state = .probe) {i : Nat} (hi : i < s.slots.length) :
    (s.slot i).txReq.set .srv false = noRequests := by
  rw [h.requests i hi, State.expectedRequests, if_pos hstate]
  rfl

theorem probeCount_le (hsilent : (s.slot s.cfg.maxSats).status.remoteCrcError = false) (hshape : s.Shape) :
    s.probeCount ≤ s.cfg.maxSats := by
  have hlt : s.cfg.maxSats < s.slots.length := by
    rw [hshape.slots]
    exact Nat.lt_succ_self _
  have hslot := slots_getElem? hlt
  by_contra hbeyond
  have hanswers := List.not_of_lt_findIdx (Nat.not_le.mp hbeyond)
  rw [List.getElem?_eq_getElem hlt, Option.some_inj] at hslot
  rw [hslot, hsilent] at hanswers
  cases hanswers

theorem probeAccepted_sequenced (hshape : s.Shape) (h : s.Sequenced) (hstate : s.disc.state = .probe)
    (hsilent : (s.slot s.cfg.maxSats).status.remoteCrcError = false) : s.probeAccepted.Sequenced := by
  have hrunning : s.disc.state ≠ .idle := fun hidle => DiscState.noConfusion (hidle.symm.trans hstate)
  obtain ⟨hinit, hactive, hnone, -⟩ := h.discovery.running hrunning
  have hsettle := (registerRanges hshape.legal).settleCycles
  have hcnt : (BitVec.ofNat 16 s.cfg.settleCycles).toNat = s.cfg.settleCycles := by
    rw [BitVec.toNat_ofNat]
    omega
  have hlen : s.probeAccepted.slots.length = s.slots.length := List.length_map _
  have hslot (i : Nat) : (s.probeAccepted.slot i).tm = (s.slot i).tm ∧ (s.probeAccepted.slot i).txDirty = true := by
    by_cases hi : i < s.slots.length
    · rw [slot_of_map (t := s.probeAccepted) rfl hi]
      exact ⟨rfl, rfl⟩
    · rw [slot_of_le (Nat.not_lt.mp hi), slot_of_le (hlen.symm ▸ Nat.not_lt.mp hi)]
      exact ⟨rfl, rfl⟩
  refine ⟨⟨fun _ => ⟨hinit, hactive, hnone, ?_⟩, fun hc => DiscState.noConfusion hc, fun _ => ⟨hcnt.le, ?_⟩,
    fun hc => DiscState.noConfusion hc⟩, fun i k => ?_, fun i hi k => ?_, h.running, h.atRest, fun i hi => ?_,
    fun i hclean => ?_⟩
  · exact ne_zero_of_one_le_toNat (hcnt.symm ▸ hsettle.1)
  · show (BitVec.ofNat 8 s.probeCount).toNat ≤ s.cfg.maxSats
    rw [BitVec.toNat_ofNat]
    exact (Nat.mod_le _ _).trans (probeCount_le hsilent hshape)
  · rw [(hslot i).1]
    exact h.counts i k
  · rw [(hslot i).1]
    exact h.inactive i hi k
  · rw [slot_of_map (t := s.probeAccepted) rfl (hlen ▸ hi),
      expectedRequests_of_not_probe (show s.probeAccepted.disc.state ≠ .probe from DiscState.noConfusion)]
    refine (withdrawn_requests h hstate (hlen ▸ hi)).trans ?_
    show noRequests = (s.sat i).stPhase.requests
    rw [idle_of_absent hshape h (hnone i)]
    rfl
  · exact Bool.noConfusion ((hslot i).2.symm.trans hclean)

theorem probeAborted_sequenced (hshape : s.Shape) (h : s.Sequenced) (hstate : s.disc.state = .probe) :
    s.probeAborted.Sequenced := by
  have hrunning : s.disc.state ≠ .idle := fun hidle => DiscState.noConfusion (hidle.symm.trans hstate)
  obtain ⟨-, -, hnone, -⟩ := h.discovery.running hrunning
  have hlen : s.probeAborted.slots.length = s.slots.length := List.length_map _
  have hslot (i : Nat) :
      (∀ k, (s.probeAborted.slot i).tm.get k = .inactive) ∧ (s.probeAborted.slot i).txDirty = true := by
    by_cases hi : i < s.slots.length
    · rw [slot_of_map (t := s.probeAborted) rfl hi]
      exact ⟨fun k => by cases k <;> rfl, rfl⟩
    · rw [slot_of_le (hlen.symm ▸ Nat.not_lt.mp hi)]
      exact ⟨fun k => by cases k <;> rfl, rfl⟩
  refine ⟨⟨fun hc => absurd rfl hc, fun hc => DiscState.noConfusion hc, fun hc => DiscState.noConfusion hc,
    fun _ => ⟨Nat.zero_le _, fun a => ?_⟩⟩, fun i k => ?_, fun i _ => (hslot i).1, h.running, h.atRest, fun i hi => ?_,
    fun i hclean => ?_⟩
  · exact iff_of_false (Bool.eq_false_iff.mp (hnone a)) (Nat.not_lt_zero a)
  · rw [(hslot i).1]
    trivial
  · rw [slot_of_map (t := s.probeAborted) rfl (hlen ▸ hi),
      expectedRequests_of_not_probe (show s.probeAborted.disc.state ≠ .probe from DiscState.noConfusion)]
    refine (withdrawn_requests h hstate (hlen ▸ hi)).trans ?_
    show noRequests = (s.sat i).stPhase.requests
    rw [idle_of_absent hshape h (hnone i)]
    rfl
  · exact Bool.noConfusion ((hslot i).2.symm.trans hclean)

/-- No mode is active where nothing is requested, so ending the modes leaves what the frame encodes. -/
theorem settle_current {p : Config.Params} {i k : Nat} {working : Bool} {sl : Slot} (h : sl.Current p i working)
    (hnone : sl.txReq = noRequests) (d : Bool) :
    Slot.Current p i working { Slot.settle k i sl with txDirty := d } := by
  obtain ⟨hencoded, hresolved⟩ := h
  have hactive (j : TestKind) : (sl.tm.get j).isActive = false := by
    rw [TestMode.isActive_eq (hresolved j), hnone]
    cases j <;> rfl
  have hsettled (j : TestKind) : ((Slot.settle k i sl).tm.get j).isActive = (sl.tm.get j).isActive := by
    unfold Slot.settle
    split
    · rw [hactive]
      cases j <;> rfl
    · rfl
  refine ⟨hencoded.trans ?_, fun j => ?_⟩
  · show encodeFrame p (txFields i sl working) (sl.tm.get .srv).isActive =
      encodeFrame p
        { txFields i sl working with
          cmdWatchdogErrorTest := ((Slot.settle k i sl).tm.get .wd).isActive
          cmdInvertCrc := ((Slot.settle k i sl).tm.get .cli).isActive }
        ((Slot.settle k i sl).tm.get .srv).isActive
    rw [hsettled, hsettled, hsettled]
    rfl
  · refine iff_of_false (of_decide_eq_false ((hsettled j).trans (hactive j))) ?_
    show ¬ sl.txReq.get j = true
    rw [hnone]
    cases j <;> exact Bool.false_ne_true

theorem finished_sequenced (hsound : s.Sound) (hclear : s.disc.state = .clear) :
    s.windowEnded.discoveryFinish.Sequenced := by
  have h := sequenced_of_sound hsound
  have hrunning : s.disc.state ≠ .idle := fun hidle => DiscState.noConfusion (hidle.symm.trans hclear)
  obtain ⟨-, -, hnone, -⟩ := h.discovery.running hrunning
  have hresult := (h.discovery.clear hclear).2
  have hends := discoveryFinish_ends hsound hclear
  let v := s.windowEnded.discoveryFinish
  have hcfg : v.cfg = s.cfg := (congrArg State.cfg hends.frame :)
  have hactive : v.activeSlots = s.disc.result.toNat :=
    (congrArg (fun l : LinkRegs => l.noOfSats.toNat) hends.link :)
  have hidle (a : Nat) : (v.sat a).stPhase = .idle ∧ (v.sat a).stCnt = 0 ∧ (v.sat a).stImplicit = false := by
    rw [hends.sat]
    split
    · exact ⟨rfl, rfl, rfl⟩
    · have hrest := idle_of_absent hsound.shape h (hnone a)
      exact ⟨hrest, h.atRest a hrest⟩
  have hpresent (a : Nat) : v.satPresent a = decide (a < s.disc.result.toNat) := by
    rw [State.satPresent, hcfg, hends.sat]
    by_cases ha : a < s.disc.result.toNat
    · rw [if_pos ha, decide_eq_true ha, decide_eq_true (ha.trans_le hresult)]
      rfl
    · rw [if_neg ha, decide_eq_false ha]
      exact hnone a
  have hworking (a : Nat) : v.satWorking a = s.satWorking a := by
    rw [State.satWorking, State.satWorking, hnone, hpresent, Bool.false_and, hends.sat]
    by_cases ha : a < s.disc.result.toNat
    · rw [if_pos ha]
      refine Bool.and_eq_false_imp.mpr fun _ => decide_eq_false ?_
      show (if _ then 0x02#5 else 0x06#5) ≠ 0
      split <;> decide
    · rw [decide_eq_false ha, Bool.false_and]
  have hrequest {i : Nat} (hi : i < s.slots.length) : (s.slot i).txReq = noRequests := by
    rw [h.requests i hi, expectedRequests_of_not_probe (hclear ▸ DiscState.noConfusion),
      idle_of_absent hsound.shape h (hnone i)]
    rfl
  have hbeyond {i : Nat} (hi : ¬ i < s.slots.length) : v.slot i = Slot.reset :=
    slot_of_le (hends.slotsLength ▸ Nat.not_lt.mp hi)
  have hdisc := hends.disc
  refine ⟨⟨?_, ?_, ?_, ?_⟩, fun i k => ?counts, fun i hi k => ?inactive, fun a hr => absurd (hidle a).1 hr,
    fun a _ => (hidle a).2, fun i hi => ?requests, fun i hclean => ?wire⟩
  · rw [hdisc]
    exact fun hr => absurd rfl hr
  · rw [hdisc]
    exact fun hp => DiscState.noConfusion hp
  · rw [hdisc]
    exact fun hp => DiscState.noConfusion hp
  · intro _
    show v.activeSlots ≤ v.cfg.maxSats ∧ ∀ a, v.satPresent a = true ↔ a < v.activeSlots
    rw [hactive, hcfg]
    exact ⟨hresult, fun a => by rw [hpresent, decide_eq_true_eq]⟩
  case counts =>
    rw [hcfg]
    by_cases hi : i < s.slots.length
    · rw [hends.slot i hi]
      show ((if s.disc.result.toNat ≤ i then allInactive else (s.slot i).tm).get k).inRange _
      split
      · cases k <;> trivial
      · exact h.counts i k
    · show ((v.slot i).tm.get k).inRange _
      rw [hbeyond hi]
      cases k <;> trivial
  case inactive =>
    by_cases hlt : i < s.slots.length
    · rw [hends.slot i hlt]
      show (if s.disc.result.toNat ≤ i then allInactive else (s.slot i).tm).get k = .inactive
      rw [if_pos (hactive ▸ hi)]
      cases k <;> rfl
    · show (v.slot i).tm.get k = .inactive
      rw [hbeyond hlt]
      cases k <;> rfl
  case requests =>
    have hlt : i < s.slots.length := hends.slotsLength ▸ hi
    rw [expectedRequests_of_not_probe (by rw [hdisc]; exact DiscState.noConfusion), (hidle i).1, hends.slot i hlt]
    exact hrequest hlt
  case wire =>
    by_cases hlt : i < s.slots.length
    · rw [hends.slot i hlt] at hclean ⊢
      show Slot.Current v.cfg i (v.satWorking i) _
      rw [hcfg, hworking]
      exact settle_current (h.wire i (Bool.or_eq_false_iff.mp hclean).1) (hrequest hlt) _
    · have hclean' : (v.slot i).txDirty = false := hclean
      rw [hbeyond hlt] at hclean'
      cases hclean'

end DiscoverySteps

section SelftestSteps

variable {s t : State}

theorem selftestStepped_of_idle {x : Sat} (cycles : Nat) (h : x.stPhase = .idle) : x.selftestStepped cycles = x :=
  if_pos h

theorem selftestStepped_of_more {x : Sat} (cycles : Nat) (h : x.stPhase ≠ .idle) (hcnt : x.stCnt ≠ 1) :
    x.selftestStepped cycles = { x with stCnt := x.stCnt - 1 } := (if_neg h).trans (if_neg hcnt)

/-- At its last cycle a phase ends the test or goes on to the next one. -/
theorem selftestStepped_of_last {x : Sat} (cycles : Nat) (h : x.stPhase ≠ .idle) (hcnt : x.stCnt = 1) :
    (∃ c, x.testCode = some c ∧ x.selftestStepped cycles = x.testEnded c)
      ∨ x.testCode = none ∧ (x.stPhase = .srv ∨ x.stPhase = .cli)
        ∧ x.selftestStepped cycles = { x with stPhase := x.stPhase.next, stCnt := BitVec.ofNat 16 cycles } := by
  have hlast : x.selftestStepped cycles = x.phaseEnded cycles := (if_neg h).trans (if_pos hcnt)
  rw [hlast, Sat.phaseEnded]
  cases hcode : x.testCode with
  | some c => exact .inl ⟨c, rfl, rfl⟩
  | none => exact .inr ⟨rfl, testCode_none hcnt h hcode, rfl⟩

theorem slot_selftestStepped_of_idle {x : Sat} (sl : Slot) (h : x.stPhase = .idle) : sl.selftestStepped x = sl := if_pos h

theorem slot_selftestStepped_of_more {x : Sat} (sl : Slot) (h : x.stPhase ≠ .idle) (hcnt : x.stCnt ≠ 1) :
    sl.selftestStepped x = sl := (if_neg h).trans (if_neg hcnt)

theorem slot_selftestStepped_of_last {x : Sat} (sl : Slot) (h : x.stPhase ≠ .idle) (hcnt : x.stCnt = 1) :
    sl.selftestStepped x =
      { sl with
        txDirty := true
        txReq := if x.testCode.isSome then noRequests else x.stPhase.advanceRequests sl.txReq } :=
  (if_neg h).trans (if_pos hcnt)

theorem selftestStepped_tm (x : Sat) (sl : Slot) : (sl.selftestStepped x).tm = sl.tm := by
  unfold Slot.selftestStepped
  split
  · rfl
  split <;> rfl

/-- The requests follow the phase. -/
theorem selftestStepped_requests (cycles : Nat) (x : Sat) (sl : Slot) (h : sl.txReq = x.stPhase.requests) :
    (sl.selftestStepped x).txReq = (x.selftestStepped cycles).stPhase.requests := by
  by_cases hidle : x.stPhase = .idle
  · rw [selftestStepped_of_idle cycles hidle, slot_selftestStepped_of_idle sl hidle, h]
  by_cases hcnt : x.stCnt = 1
  · rw [slot_selftestStepped_of_last sl hidle hcnt]
    rcases selftestStepped_of_last cycles hidle hcnt with ⟨c, hcode, hstep⟩ | ⟨hcode, hphase, hstep⟩
    · rw [hstep, hcode]
      rfl
    · rw [hstep, hcode, h]
      rcases hphase with hphase | hphase <;> rw [hphase] <;> rfl
  · rw [selftestStepped_of_more cycles hidle hcnt, slot_selftestStepped_of_more sl hidle hcnt, h]

/-- A slot that a step leaves clean it leaves alone, and its satellite's op-state with it. -/
theorem selftestStepped_clean (cycles : Nat) (x : Sat) (sl : Slot) (h : (sl.selftestStepped x).txDirty = false) :
    sl.selftestStepped x = sl ∧ (x.selftestStepped cycles).op = x.op := by
  by_cases hidle : x.stPhase = .idle
  · rw [selftestStepped_of_idle cycles hidle, slot_selftestStepped_of_idle sl hidle]
    exact ⟨rfl, rfl⟩
  by_cases hcnt : x.stCnt = 1
  · rw [slot_selftestStepped_of_last sl hidle hcnt] at h
    cases h
  · rw [selftestStepped_of_more cycles hidle hcnt, slot_selftestStepped_of_more sl hidle hcnt]
    exact ⟨rfl, rfl⟩

/-- A self-test that runs on has its count in range. -/
theorem selftestStepped_running {cycles : Nat} {x : Sat} (hcycles : 1 ≤ cycles ∧ cycles ≤ 65535)
    (hx : x.stPhase ≠ .idle → x.present = true ∧ 1 ≤ x.stCnt.toNat ∧ x.stCnt.toNat ≤ cycles)
    (h : (x.selftestStepped cycles).stPhase ≠ .idle) :
    (x.selftestStepped cycles).present = true ∧ 1 ≤ (x.selftestStepped cycles).stCnt.toNat
      ∧ (x.selftestStepped cycles).stCnt.toNat ≤ cycles := by
  by_cases hidle : x.stPhase = .idle
  · rw [selftestStepped_of_idle cycles hidle] at h
    exact absurd hidle h
  obtain ⟨hpresent, hone, hle⟩ := hx hidle
  by_cases hcnt : x.stCnt = 1
  · rcases selftestStepped_of_last cycles hidle hcnt with ⟨c, -, hstep⟩ | ⟨-, -, hstep⟩
    · rw [hstep] at h
      exact absurd rfl h
    · have hfull : (BitVec.ofNat 16 cycles).toNat = cycles := by
        rw [BitVec.toNat_ofNat]
        omega
      rw [hstep]
      exact ⟨hpresent, hfull.symm ▸ hcycles.1, hfull.le⟩
  · have hless : (x.stCnt - 1).toNat = x.stCnt.toNat - 1 := by bv_omega
    have hmore : x.stCnt.toNat ≠ 1 := fun hc => hcnt (BitVec.eq_of_toNat_eq hc)
    rw [selftestStepped_of_more cycles hidle hcnt]
    exact ⟨hpresent, by rw [hless]; omega, by rw [hless]; omega⟩

theorem selftestStepped_atRest {cycles : Nat} {x : Sat}
    (hx : x.stPhase = .idle → x.stCnt = 0 ∧ x.stImplicit = false) (h : (x.selftestStepped cycles).stPhase = .idle) :
    (x.selftestStepped cycles).stCnt = 0 ∧ (x.selftestStepped cycles).stImplicit = false := by
  by_cases hidle : x.stPhase = .idle
  · rw [selftestStepped_of_idle cycles hidle]
    exact hx hidle
  by_cases hcnt : x.stCnt = 1
  · rcases selftestStepped_of_last cycles hidle hcnt with ⟨c, -, hstep⟩ | ⟨-, hphase, hstep⟩
    · rw [hstep]
      exact ⟨rfl, rfl⟩
    · rw [hstep] at h
      rcases hphase with hphase | hphase <;> rw [hphase] at h <;> cases h
  · rw [selftestStepped_of_more cycles hidle hcnt] at h
    exact absurd h hidle

theorem selftestsStepped_sequenced (hshape : s.Shape) (h : s.Sequenced) (hidle : s.disc.state = .idle) :
    s.selftestsStepped.Sequenced := by
  have hframe := selftestsStepped_frame s s.sats s.slots s.evq s.evOvf
  have hcfg : s.selftestsStepped.cfg = s.cfg := (congrArg State.cfg hframe :)
  have hdisc : s.selftestsStepped.disc = s.disc := (congrArg State.disc hframe :)
  have hactive : s.selftestsStepped.activeSlots = s.activeSlots := (congrArg State.activeSlots hframe :)
  have hpresent := (selftestsStepped_records hshape).satPresent
  have hcycles := (registerRanges hshape.legal).phaseCycles
  have hat := selftestsStepped_at s hshape
  have htm (i : Nat) : (s.selftestsStepped.slot i).tm = (s.slot i).tm := by
    rw [(hat i).2]
    split
    · exact selftestStepped_tm _ _
    · rfl
  have hnot : s.disc.state ≠ .probe := hidle ▸ DiscState.noConfusion
  refine ⟨?discovery, fun i k => ?counts, fun i hi k => ?inactive, fun a => ?running, fun a => ?atRest,
    fun i hi => ?requests, fun i hclean => ?wire⟩
  case discovery =>
    obtain ⟨-, hprobe, hclear, hexists⟩ := h.discovery
    refine ⟨fun hr => absurd hidle (hdisc ▸ hr), ?_, ?_, fun _ => ?_⟩
    · rw [hdisc, hcfg]
      exact hprobe
    · rw [hdisc, hcfg]
      exact hclear
    · rw [hactive, hcfg]
      obtain ⟨hmax, hexist⟩ := hexists hidle
      exact ⟨hmax, fun a => by rw [hpresent]; exact hexist a⟩
  case counts =>
    rw [htm, hcfg]
    exact h.counts i k
  case inactive =>
    rw [htm]
    exact h.inactive i (hactive ▸ hi) k
  case running =>
    rw [(hat a).1, hcfg]
    split
    · exact selftestStepped_running hcycles (h.running a)
    · exact h.running a
  case atRest =>
    rw [(hat a).1]
    split
    · exact selftestStepped_atRest (h.atRest a)
    · exact h.atRest a
  case requests =>
    have hrequest := h.requests i ((selftestsStepped_lengths s).2 ▸ hi)
    rw [expectedRequests_of_not_probe hnot] at hrequest
    rw [expectedRequests_of_not_probe (hdisc ▸ hnot), (hat i).1, (hat i).2]
    split
    · exact selftestStepped_requests _ _ _ hrequest
    · exact hrequest
  case wire =>
    rw [(hat i).2] at hclean ⊢
    rw [State.satWorking, hpresent, (hat i).1, hcfg]
    split at hclean
    · rename_i hp
      obtain ⟨hslot, hop⟩ := selftestStepped_clean s.cfg.selftestPhaseCycles (s.sat i) (s.slot i) hclean
      rw [if_pos hp, if_pos hp, hop, hslot]
      exact h.wire i (hslot ▸ hclean)
    · rename_i hp
      rw [if_neg hp, if_neg hp]
      exact h.wire i hclean

end SelftestSteps

section EveryStep

variable {s t : State} {i : Input}

theorem Acts.sequenced (hsound : s.Sound) (ha : Acts i s t) : t.Sequenced := by
  have h := sequenced_of_sound hsound
  have hshape := hsound.shape
  cases ha with
  | none => exact h
  | command succeeds => exact succeeds.sequenced hshape h
  | encodes => exact encodeSlots_sequenced hshape.legal h
  | discovers asked =>
    exact encodeSlots_sequenced (discoveryStart_shape hshape).legal (discoveryStart_sequenced hshape h asked)
  | judges =>
    have hread : Undisturbed s s.clockRead := .ofQuiet ((Quiet.refl s).tick.setTime _)
    have hjudged : Undisturbed s.clockRead s.judged :=
      .ofOpChange (judged_change s) fun _ => (judged_bits (by decide) (by decide)).hasBit_link
    exact (hread.trans hjudged).sequenced h
  | tests idle => exact selftestsStepped_sequenced hshape h idle
  | counts running more => exact countedDown_sequenced h running more
  | accepts probes last silent => exact probeAccepted_sequenced hshape h probes silent
  | aborts probes =>
    have hfailed : Undisturbed s.probeAborted s.probeAborted.linkFailed :=
      .ofOpChange (linkFailed_change _) fun hrunning => absurd rfl hrunning
    exact hfailed.sequenced (probeAborted_sequenced hshape h probes)
  | finishes clears => exact finished_sequenced hsound clears

theorem step_sequenced (h : s.Sound) (hstep : step s = .next t) : t.Sequenced := by
  rcases step_acts h hstep with ⟨-, rfl⟩ | ⟨v, hacts, hquiet⟩
  · exact sequenced_of_sound (resetInput_sound (inputTaken_sound h).shape.legal)
  · exact (Undisturbed.ofQuiet hquiet).sequenced (hacts.sequenced (inputTaken_sound h))

end EveryStep

end Sys2Proof.Machine

section SequencerStatements

open Sys2Proof Sys2Proof.Machine

/-- Settles O58. -/
theorem stepKeepsDiscoveryInOwnership : Obligations.StepKeepsDiscoveryInOwnership :=
  fun _ _ h hstep => (step_sequenced h hstep).discovery

/-- Settles O59. -/
theorem stepKeepsTheSequencersInStep : Obligations.StepKeepsTheSequencersInStep := fun _ _ h hstep =>
  have ht := step_sequenced h hstep
  ⟨ht.modesSound, ht.selftestsSound, ht.requestsSound⟩

/-- Settles O60. -/
theorem stepKeepsTheWireCurrent : Obligations.StepKeepsTheWireCurrent :=
  fun _ _ h hstep => (step_sequenced h hstep).wireCurrent

end SequencerStatements

/-! # Shape, time bases and the cycle's buffer at every step (spec/10_state.md R50, spec/42_scan_engine.md R171 to R175)

`Steady` is what every step but BUDGET, TIMING and reset keeps of the machine's frame: only the clock goes on, and a
timer is armed at most T_REESTABLISH_MS ahead. -/

namespace Sys2Proof.Machine

section SteadySteps

variable {s t u : State}

/-- The re-establishment timer is not set beyond T_REESTABLISH_MS from now (R220). -/
def State.timerNear (s : State) : Prop := s.reest.deadline ≤ s.env.clock + s.cfg.tReestablishMs

/-- From `s` to `t` configuration, lengths, the line's level and the time bases stay, and the clock does not go back. -/
structure Steady (s t : State) : Prop where
  cfg : t.cfg = s.cfg
  conf : t.conf = s.conf
  satsLength : t.sats.length = s.sats.length
  slotsLength : t.slots.length = s.slots.length
  level : t.line.level = s.line.level
  time : t.time = s.time
  cyc : t.cyc = s.cyc
  clock : s.env.clock ≤ t.env.clock
  timer : s.timerNear → t.timerNear

theorem Steady.trans (h : Steady s t) (h' : Steady t u) : Steady s u where
  cfg := h'.cfg.trans h.cfg
  conf := h'.conf.trans h.conf
  satsLength := h'.satsLength.trans h.satsLength
  slotsLength := h'.slotsLength.trans h.slotsLength
  level := h'.level.trans h.level
  time := h'.time.trans h.time
  cyc := h'.cyc.trans h.cyc
  clock := h.clock.trans h'.clock
  timer hs := h'.timer (h.timer hs)

/-- `t` with all that a step may write but the frame of the machine, its clock and its timer taken from `s`. -/
def State.withContents (s t : State) : State :=
  { t with
    scanPhase := s.scanPhase
    link := s.link
    slots := s.slots
    sats := s.sats
    disc := s.disc
    host := s.host
    evq := s.evq
    evOvf := s.evOvf
    readValue := s.readValue }

/-- A change that leaves the environment and the timer alone. -/
theorem Steady.ofFrame (h : s.withContents t = s)
    (hsats : t.sats.length = s.sats.length) (hslots : t.slots.length = s.slots.length) : Steady s t where
  cfg := (congrArg State.cfg h :)
  conf := (congrArg State.conf h :)
  satsLength := hsats
  slotsLength := hslots
  level := (congrArg (fun v : State => v.line.level) h :)
  time := (congrArg State.time h :)
  cyc := (congrArg State.cyc h :)
  clock := (congrArg (fun v : State => v.env.clock) h :).ge
  timer hs := by
    have henv : t.env = s.env := (congrArg State.env h :)
    have hcfg : t.cfg = s.cfg := (congrArg State.cfg h :)
    have hreest : t.reest = s.reest := (congrArg State.reest h :)
    rw [State.timerNear, henv, hcfg, hreest]
    exact hs

theorem Steady.refl (s : State) : Steady s s := ⟨rfl, rfl, rfl, rfl, rfl, rfl, rfl, le_refl _, id⟩

theorem Steady.tick (s : State) : Steady s s.tick where
  cfg := tick_cfg s
  conf := tick_conf s
  satsLength := by rw [tick_sats]
  slotsLength := by rw [tick_slots]
  level := by rw [tick_line]
  time := tick_time s
  cyc := tick_cyc s
  clock := tick_clock_le s
  timer hs := by
    rw [State.timerNear, tick_cfg, tick_reest]
    exact Nat.le_trans hs (Nat.add_le_add_right (tick_clock_le s) _)

theorem Steady.setPhase (s : State) (ph : ScanPhase) : Steady s (s.setPhase ph) :=
  ⟨rfl, rfl, rfl, rfl, rfl, rfl, rfl, le_refl _, id⟩

/-- An operation of the state machine that arms no timer. -/
theorem Steady.ofOpChange (h : OpChange s t) (hclock : s.env.clock ≤ t.env.clock)
    (htimer : s.timerNear → t.timerNear) : Steady s t where
  cfg := h.cfg
  conf := h.conf
  satsLength := h.satsLength
  slotsLength := h.slotsLength
  level := by rw [h.line]
  time := h.time
  cyc := h.cyc
  clock := hclock
  timer := htimer

theorem Steady.shape (h : Steady s t) (hs : s.Shape) : t.Shape where
  legal := h.cfg ▸ hs.legal
  slots := by rw [h.slotsLength, h.cfg, hs.slots]
  sats := by rw [h.satsLength, h.cfg, hs.sats]
  scanInterval := by rw [h.conf, h.cfg, hs.scanInterval]
  maxSats := by rw [h.conf, h.cfg, hs.maxSats]
  linkAddr := by rw [h.conf, h.cfg, hs.linkAddr]
  line := by rw [h.level, h.cfg, hs.line]

/-- The time bases stay sound where the period has begun when WAIT is left. -/
theorem Steady.times (h : Steady s t) (hs : s.TimesSound)
    (hstarted : t.scanPhase ≠ .wait → s.time.periodBase ≤ t.env.clock) : t.TimesSound := by
  have hclock := h.clock
  have hbudget := hs.budget
  have hperiod := hs.period
  refine ⟨?_, ?_, ?_, ?_, h.timer hs.reest⟩
  · rw [h.time]
    exact hs.window
  · rw [h.time]
    omega
  · rw [h.time, h.conf]
    omega
  · rw [h.time]
    exact hstarted

/-- The cycle's buffer where PROCESS is not entered. -/
theorem cycleSound_of_kept (hs : s.CycleSound) (hcyc : t.cyc = s.cyc)
    (hphase : t.scanPhase = .process → s.scanPhase = .process ∧ t.activeSlots = s.activeSlots) : t.CycleSound where
  one := by
    rw [hcyc]
    exact hs.one
  bits hp := by
    obtain ⟨hp', hactive⟩ := hphase hp
    rw [hcyc, hactive]
    exact hs.bits hp'

end SteadySteps

section MicroSteps

variable {s t : State}

/-! ## The micro-steps that leave the time bases alone -/

theorem scanWait_steady (s : State) : Steady s s.scanWait := by
  rw [scanWait_eq]
  exact (Steady.tick s).trans (.setPhase _ _)

theorem busAdvance_clock (s : State) : s.busAdvance.env.clock = s.env.clock := by
  unfold State.busAdvance
  split <;> rfl

/-- But for its answer TXRX is steady. -/
theorem scanTxrx_steady (hshape : s.Shape) : Steady s (s.scanTxrx.setCyc s.cyc) := by
  by_cases hactive : s.activeSlots = 0
  · rw [scanTxrx_of_silent s hactive]
    exact ⟨rfl, rfl, rfl, rfl, rfl, rfl, rfl, le_refl _, id⟩
  · rw [scanTxrx_of_active s hactive]
    refine ⟨rfl, rfl, rfl, rfl, hshape.line.symm, rfl, rfl, (busAdvance_clock s).ge, fun hs => ?_⟩
    show s.reest.deadline ≤ s.busAdvance.env.clock + s.cfg.tReestablishMs
    rw [busAdvance_clock]
    exact hs

theorem scanProcess_frame (s : State) :
    { s.scanProcess with
      scanPhase := s.scanPhase, link := s.link, sats := s.sats, slots := s.slots, evq := s.evq, evOvf := s.evOvf }
      = s := by
  have hbad : { s.processBad with
      link := s.link, sats := s.sats, slots := s.slots, evq := s.evq, evOvf := s.evOvf } = s := by
    refine foldl_induct _ (P := fun t => { t with
      link := s.link, sats := s.sats, slots := s.slots, evq := s.evq, evOvf := s.evOvf } = s) _
      (fun i _ u hu => ?_) ?_
    · have hslot := processBadSlot_frame (s := u) (i := i) s.slots s.evq s.evOvf
      exact (congrArg (fun v : State => (v.setLink s.link).setSats s.sats) hslot).trans hu
    · have hcount := countTransport_frame s s.link
      exact congrArg (fun v : State => ((v.setSats s.sats).setSlots s.slots).setEvents s.evq s.evOvf) hcount
  have hgood : { (List.range s.activeSlots).foldl (fun u i => u.processSlot i) s with
      link := s.link, sats := s.sats, slots := s.slots, evq := s.evq, evOvf := s.evOvf } = s :=
    foldl_induct s (P := fun t => { t with
      link := s.link, sats := s.sats, slots := s.slots, evq := s.evq, evOvf := s.evOvf } = s) _
      (fun i _ u hu => (processSlot_frame u i s.link s.sats s.slots s.evq s.evOvf).trans hu) rfl
  unfold State.scanProcess
  split
  · exact congrArg (State.setPhase · s.scanPhase) hbad
  · exact congrArg (State.setPhase · s.scanPhase) hgood

theorem scanProcess_steady (s : State) : Steady s s.scanProcess := by
  have hquiet := (Quiet.refl s).scanProcess
  exact .ofFrame (congrArg s.withContents (scanProcess_frame s) :) hquiet.satsLength hquiet.slotsLength

theorem scanEncode_steady (s : State) : Steady s s.scanEncode := by
  have hstart : Steady s s.discoveryStart := by
    cases hasked : s.disc.pending with
    | true =>
      refine .ofFrame (congrArg s.withContents (discoveryStart_frame hasked) :) (discoveryStart_sats_length hasked) ?_
      rw [discoveryStart_slots hasked, List.length_map]
    | false =>
      rw [discoveryStart_of_not_pending s hasked]
      exact .refl s
  have hencode : Steady s.discoveryStart s.scanEncode :=
    .ofFrame rfl rfl (encodeSlots_slots_length s.discoveryStart)
  exact hstart.trans hencode

/-! ## SEQ -/

theorem linkFailed_steady (s : State) : Steady s s.linkFailed := by
  obtain ⟨henv, hreest⟩ := linkFailed_timer s
  refine .ofOpChange (linkFailed_change s) ?_ fun _ => ?_
  · rw [henv]
    exact tick_clock_le s
  · rw [State.timerNear, henv, hreest, (linkFailed_change s).cfg]

theorem emit_steady (s : State) (e : Event) : Steady s (s.emit e) := by
  refine .ofOpChange ((OpChange.refl s).emit e) (by rw [emit_env]) fun hs => ?_
  rw [State.timerNear, emit_env, emit_reest, emit_cfg]
  exact hs

theorem finished_steady (s : State) : Steady s s.finished := by
  obtain ⟨hsats, hslots⟩ := createBelow_lengths s.windowEnded.settled s.disc.result.toNat
  exact .ofFrame (congrArg s.withContents (finished_frame s s.sats s.slots s.evq s.evOvf) :) hsats
    (hslots.trans List.length_mapIdx)

theorem discoveryFinish_steady (s : State) : Steady s s.windowEnded.discoveryFinish := by
  rw [finished_eq]
  split
  · have hfreed : Steady s.finished (s.finished.opDeBlock .link (opFail ||| opInit)) := by
      refine .ofOpChange ((OpChange.refl _).opDeBlock _ _) (by rw [opDeBlock_env]) fun hs => ?_
      rw [State.timerNear, opDeBlock_env, opDeBlock_reest, opDeBlock_cfg]
      exact hs
    exact ((finished_steady s).trans hfreed).trans (emit_steady _ _)
  · exact ((finished_steady s).trans (linkFailed_steady _)).trans (emit_steady _ _)

theorem discoveryStep_steady (s : State) : Steady s s.discoveryStep := by
  by_cases hidle : s.disc.state = .idle
  · rw [discoveryStep_of_idle s hidle]
    exact .refl s
  by_cases hlast : s.disc.cnt = 1
  · cases hstate : s.disc.state with
    | idle => exact absurd hstate hidle
    | probe =>
      cases hanswer : (s.slot s.cfg.maxSats).status.remoteCrcError with
      | true =>
        have haborted : Steady s s.probeAborted := .ofFrame rfl rfl (List.length_map _)
        rw [discoveryStep_of_abort hstate hlast hanswer]
        exact (haborted.trans (linkFailed_steady _)).trans (emit_steady _ _)
      | false =>
        rw [discoveryStep_of_accept hstate hlast hanswer]
        exact .ofFrame rfl rfl (List.length_map _)
    | clear =>
      rw [discoveryStep_of_clear hstate hlast]
      exact discoveryFinish_steady s
  · rw [discoveryStep_of_more hidle hlast]
    exact .ofFrame rfl rfl rfl

theorem reestCheck_steady (s : State) : Steady s s.reestCheck := by
  have hframe := reestCheck_frame s s.reest s.disc
  have henv : s.reestCheck.env = s.env := (congrArg State.env hframe :)
  refine ⟨(congrArg State.cfg hframe :), (congrArg State.conf hframe :),
    (congrArg (fun v : State => v.sats.length) hframe :), (congrArg (fun v : State => v.slots.length) hframe :),
    (congrArg (fun v : State => v.line.level) hframe :), (congrArg State.time hframe :),
    (congrArg State.cyc hframe :), by rw [henv], fun hs => ?_⟩
  rw [State.timerNear, henv, (congrArg State.cfg hframe : _ = s.cfg), reestCheck_reest]
  split <;> exact hs

theorem scanSeq_steady (s : State) : Steady s s.scanSeq := by
  have htests (u : State) : Steady u u.selftestsStepped :=
    .ofFrame (congrArg u.withContents (selftestsStepped_frame u u.sats u.slots u.evq u.evOvf) :)
      (selftestsStepped_lengths u).1 (selftestsStepped_lengths u).2
  exact (((discoveryStep_steady s).trans (htests _)).trans (reestCheck_steady _)).trans (.setPhase _ _)

/-! ## The HOST agent's accesses -/

theorem readRegister_steady (s : State) (addr : Nat) : Steady s (s.readRegister addr) := by
  unfold State.readRegister
  simp only []
  split <;> exact .ofFrame rfl rfl rfl

theorem writeRegister_steady (s : State) (addr : Nat) (v : Word) : Steady s (s.writeRegister addr v) := by
  unfold State.writeRegister
  split
  · exact .ofFrame rfl rfl rfl
  · split <;> exact .ofFrame rfl rfl rfl
  · exact .refl s

theorem Succeeds.lengths {v : Word} (h : Succeeds s t v) :
    t.sats.length = s.sats.length ∧ t.slots.length = s.slots.length := by
  have hadm (e : Entity) (adm : Adm) :
      (s.setAdm e adm).sats.length = s.sats.length ∧ (s.setAdm e adm).slots.length = s.slots.length := by
    cases e with
    | link => exact ⟨rfl, rfl⟩
    | sat a => exact ⟨modifySat_length s a _, rfl⟩
  have hafter (u : State) (e : Entity) :
      (u.afterDeBlock e).sats.length = u.sats.length ∧ (u.afterDeBlock e).slots.length = u.slots.length := by
    cases e with
    | link => exact ⟨rfl, rfl⟩
    | sat a =>
      rw [afterDeBlock_eq]
      split
      · exact ⟨modifySat_length (u.setTxReq a .srv true) a _, modifySlot_length u a _⟩
      · exact ⟨rfl, rfl⟩
  have henabled (e : Entity) :
      let w := ((s.setAdm e .enable).opDeBlock e opDisabled).afterDeBlock e
      w.sats.length = s.sats.length ∧ w.slots.length = s.slots.length := by
    have hfreed := (OpChange.refl (s.setAdm e .enable)).opDeBlock e opDisabled
    exact ⟨(hafter _ e).1.trans (hfreed.satsLength.trans (hadm e _).1),
      (hafter _ e).2.trans (hfreed.slotsLength.trans (hadm e _).2)⟩
  have hdisabled (e : Entity) :
      let w := (s.setAdm e .disable).opBlock e opDisabled
      w.sats.length = s.sats.length ∧ w.slots.length = s.slots.length := by
    have hblocked := (OpChange.refl (s.setAdm e .disable)).opBlock e opDisabled
    exact ⟨hblocked.satsLength.trans (hadm e _).1, hblocked.slotsLength.trans (hadm e _).2⟩
  cases h with
  | same | linkThres | linkCounters => exact ⟨rfl, rfl⟩
  | tx a | consume a => exact ⟨rfl, modifySlot_length s a _⟩
  | satThres a | satCounters a => exact ⟨modifySat_length s a _, rfl⟩
  | linkEnable => exact henabled .link
  | satEnable a => exact henabled (.sat a)
  | linkDisable => exact hdisabled .link
  | satDisable a => exact hdisabled (.sat a)
  | selftest a t _ starts =>
    obtain ⟨_, _, rfl⟩ := selftestStart_ok starts
    exact ⟨modifySat_length (s.setTxReq a .srv true) a _, modifySlot_length s a _⟩

theorem Succeeds.steady {v : Word} (h : Succeeds s t v) : Steady s t :=
  .ofFrame (congrArg s.withContents h.commandFrame.frame :) h.lengths.1 h.lengths.2

end MicroSteps

section TimedSteps

variable {s t : State}

/-! ## BUDGET and TIMING, which write the time bases -/

/-- What O54 says of a step. -/
structure StepsInTime (s t : State) : Prop where
  cfg : t.cfg = s.cfg
  shape : t.Shape
  times : t.TimesSound
  cycle : t.CycleSound

theorem scanTiming_inTime (h : s.Sound) (hphase : s.scanPhase = .timing) : StepsInTime s s.scanTiming := by
  have hstarted := h.times.started (by rw [hphase]; exact ScanPhase.noConfusion)
  have hclock := tick_clock_le s
  have hbudget := h.times.budget
  have hdone (w : State) (p : Nat) (hw : Steady s w)
      (hp : p ≤ w.env.clock + s.conf.scanInterval.toNat) :
      StepsInTime s ((w.setTime { s.time with periodBase := p }).setPhase .wait) := by
    have hwclock := hw.clock
    refine ⟨hw.cfg, { hw.shape h.shape with },
      ⟨h.times.window, ?_, ?_, fun hne => absurd rfl hne, hw.timer h.times.reest⟩,
      cycleSound_of_kept h.cycle hw.cyc fun hp => ScanPhase.noConfusion hp⟩
    · exact hbudget.trans hwclock
    · show p ≤ w.env.clock + w.conf.scanInterval.toNat
      rw [hw.conf]
      exact hp
  have htick := Steady.tick s
  have hcount : Steady s (s.tick.countLink .timing) := htick.trans (.ofFrame rfl rfl rfl)
  unfold State.scanTiming
  simp only [tick_time, tick_conf]
  split
  · exact hdone s.tick _ htick (by omega)
  · exact hdone (s.tick.countLink .timing) _ hcount (Nat.le_add_right _ _)

theorem linkHighJudged_clock (s : State) : s.tick.env.clock ≤ s.linkHighJudged.env.clock := by
  unfold State.linkHighJudged
  split
  · rw [(opBlock_link_armed s.clockRead opErrorSecond (by decide)).1]
    exact tick_clock_le s.clockRead
  · exact le_refl _

theorem scanBudget_shape (h : s.Sound) : s.scanBudget.Shape := by
  have hjudged := (judged_change s).shape (clockRead_shape s h.shape)
  rw [scanBudget_eq_judged s h.shape h.thresholds]
  refine { hjudged with sats := Eq.trans ?_ hjudged.sats }
  show (if s.atBoundary then s.judged.sats.map _ else s.judged.sats).length = s.judged.sats.length
  split
  · exact List.length_map _
  · rfl

theorem scanBudget_inTime (h : s.Sound) (hphase : s.scanPhase = .budget) : StepsInTime s s.scanBudget := by
  have hstarted := h.times.started (by rw [hphase]; exact ScanPhase.noConfusion)
  have hchange := judged_change s
  have hread := clockRead_frame s s.time s.env
  have hjudged := scanBudget_eq_judged s h.shape h.thresholds
  have hcfg : s.scanBudget.cfg = s.cfg := (congrArg State.cfg hjudged :).trans (hchange.cfg.trans (clockRead_cfg s))
  have hconf : s.scanBudget.conf = s.conf :=
    (congrArg State.conf hjudged :).trans (hchange.conf.trans (congrArg State.conf hread :))
  have hcyc : s.scanBudget.cyc = s.cyc :=
    (congrArg State.cyc hjudged :).trans (hchange.cyc.trans (congrArg State.cyc hread :))
  have hnext : s.scanBudget.scanPhase = .seq := rfl
  have htime := scanBudget_time s h.thresholds h.shape
  have hclock : s.tick.env.clock ≤ s.scanBudget.env.clock := by
    rw [scanBudget_env s h.shape h.thresholds]
    exact linkHighJudged_clock s
  have htick := tick_clock_le s
  obtain ⟨harmed, hkept⟩ := scanBudget_reest s h.shape h.thresholds
  refine ⟨hcfg, scanBudget_shape h, ⟨?_, ?_, ?_, fun _ => ?_, ?_⟩,
    cycleSound_of_kept h.cycle hcyc fun hp => ScanPhase.noConfusion (hnext.symm.trans hp)⟩
  · rw [htime]
    show (if s.atBoundary then s.tick.env.clock else s.time.secBase) ≤ s.tick.env.clock
    split
    · exact le_refl _
    · exact (h.times.window.trans h.times.budget).trans htick
  · rw [htime]
    exact hclock
  · rw [htime, hconf]
    exact h.times.period.trans (Nat.add_le_add_right (htick.trans hclock) _)
  · rw [htime]
    exact hstarted.trans (htick.trans hclock)
  · rw [hcfg]
    by_cases hover : s.linkOver
    · rw [harmed hover]
    · rw [hkept hover]
      exact h.times.reest.trans (Nat.add_le_add_right (htick.trans hclock) _)

end TimedSteps

section EveryStep

variable {s t : State}

/-- A steady step that does not leave WAIT and enters PROCESS only with the buffer as it was. -/
theorem Steady.inTime (hw : Steady s t) (h : s.Sound) (hwait : t.scanPhase ≠ .wait → s.scanPhase ≠ .wait)
    (hprocess : t.scanPhase = .process → s.scanPhase = .process ∧ t.activeSlots = s.activeSlots) : StepsInTime s t where
  cfg := hw.cfg
  shape := hw.shape h.shape
  times := hw.times h.times fun hne => (h.times.started (hwait hne)).trans hw.clock
  cycle := cycleSound_of_kept h.cycle hw.cyc hprocess

theorem scanWait_inTime (h : s.Sound) (hphase : s.scanPhase = .wait) : StepsInTime s s.scanWait := by
  have hsteady := scanWait_steady s
  have hclock : s.scanWait.env.clock = s.tick.env.clock := by
    rw [scanWait_eq]
    rfl
  have hnext : s.scanWait.scanPhase = if s.time.periodBase ≤ s.tick.env.clock then .encode else .wait := by
    rw [scanWait_eq, hphase]
    rfl
  refine ⟨hsteady.cfg, hsteady.shape h.shape, hsteady.times h.times fun hleft => ?_,
    cycleSound_of_kept h.cycle hsteady.cyc fun hp => ?_⟩
  · rw [hclock]
    by_contra hearly
    rw [if_neg hearly] at hnext
    exact hleft hnext
  · rw [hnext] at hp
    split at hp <;> cases hp

/-- The decoder reports at most one error, and without one as many bits as were asked for (R141). -/
theorem cycleOf_depulse (p : Config.Params) (rx : RxBurst) (n : Nat) :
    let c := CycleRegs.ofAnswer (depulse p rx n)
    ¬ (c.sym = true ∧ c.size = true) ∧ (c.sym = false → c.size = false → c.rxBuf.length = n) := by
  have hbits (bits : List Bool) (hok : depulse p rx n = .ok bits) : bits.length = n := by
    cases rx with
    | none => exact ((depulse_ok_iff p [] n bits).mp hok).2.2
    | some xs => exact ((depulse_ok_iff p xs n bits).mp hok).2.2
  cases hanswer : depulse p rx n with
  | symbolError => exact ⟨fun hc => Bool.false_ne_true hc.2, fun hc => Bool.noConfusion hc⟩
  | sizeError => exact ⟨fun hc => Bool.false_ne_true hc.1, fun _ hc => Bool.noConfusion hc⟩
  | ok bits => exact ⟨fun hc => Bool.false_ne_true hc.1, fun _ _ => hbits bits hanswer⟩

theorem scanTxrx_cycle (s : State) : s.scanTxrx.CycleSound := by
  by_cases hactive : s.activeSlots = 0
  · rw [scanTxrx_of_silent s hactive]
    refine ⟨fun hc => Bool.false_ne_true hc.1, fun _ _ _ => ?_⟩
    show 0 = 64 * s.activeSlots
    rw [hactive]
  · obtain ⟨hone, hbits⟩ := cycleOf_depulse s.cfg s.busAnswer (64 * s.activeSlots)
    rw [scanTxrx_of_active s hactive]
    exact ⟨hone, fun _ => hbits⟩

theorem scanTxrx_inTime (h : s.Sound) (hphase : s.scanPhase = .txrx) : StepsInTime s s.scanTxrx := by
  have hsteady := scanTxrx_steady h.shape
  have hstarted := h.times.started (by rw [hphase]; exact ScanPhase.noConfusion)
  exact ⟨hsteady.cfg, { hsteady.shape h.shape with },
    { hsteady.times h.times fun _ => hstarted.trans hsteady.clock with }, scanTxrx_cycle s⟩

theorem scanStep_inTime (h : s.Sound) : StepsInTime s s.scanStep := by
  have hleft {u : State} {ph : ScanPhase} (hphase : s.scanPhase = ph) (hne : ph ≠ .wait) :
      u.scanPhase ≠ .wait → s.scanPhase ≠ .wait := fun _ => hphase ▸ hne
  rw [State.scanStep]
  cases hphase : s.scanPhase with
  | wait => exact scanWait_inTime h hphase
  | txrx => exact scanTxrx_inTime h hphase
  | budget => exact scanBudget_inTime h hphase
  | timing => exact scanTiming_inTime h hphase
  | encode =>
    exact (scanEncode_steady s).inTime h (hleft hphase ScanPhase.noConfusion) fun hp => ScanPhase.noConfusion hp
  | process =>
    exact (scanProcess_steady s).inTime h (hleft hphase ScanPhase.noConfusion) fun hp => ScanPhase.noConfusion hp
  | seq => exact (scanSeq_steady s).inTime h (hleft hphase ScanPhase.noConfusion) fun hp => ScanPhase.noConfusion hp

/-- An access of the HOST agent moves no micro-step. -/
theorem Steady.inTime_of_samePhase (hw : Steady s t) (h : s.Sound) (hphase : t.scanPhase = s.scanPhase)
    (hactive : t.activeSlots = s.activeSlots) : StepsInTime s t :=
  hw.inTime h (fun hne => hphase ▸ hne) fun hp => ⟨hphase ▸ hp, hactive⟩

theorem readRegister_scanPhase (s : State) (addr : Nat) : (s.readRegister addr).scanPhase = s.scanPhase := by
  unfold State.readRegister
  simp only []
  split <;> rfl

theorem writeRegister_scanPhase (s : State) (addr : Nat) (v : Word) :
    (s.writeRegister addr v).scanPhase = s.scanPhase := by
  unfold State.writeRegister
  split
  · rfl
  · split <;> rfl
  · rfl

theorem step_inTime (h : s.Sound) (hstep : step s = .next t) :
    t.Shape ∧ t.TimesSound ∧ t.CycleSound ∧ t.cfg = s.cfg := by
  let u := s.inputTaken
  have hu : u.Sound := inputTaken_sound h
  have hdone (ht : StepsInTime u t) : t.Shape ∧ t.TimesSound ∧ t.CycleSound ∧ t.cfg = s.cfg :=
    ⟨ht.shape, ht.times, ht.cycle, ht.cfg.trans (inputTaken_cfg s)⟩
  rcases step_cases hstep with ⟨-, rfl⟩ | ⟨-, rfl⟩ | ⟨addr, rfl⟩ | ⟨addr, v, rfl⟩ | ⟨i, hexec⟩
  · exact hdone (scanStep_inTime hu)
  · have hreset := resetInput_sound hu.shape.legal
    refine ⟨hreset.shape, hreset.times, hreset.cycle, ?_⟩
    rw [resetInput_eq]
    exact inputTaken_cfg s
  · exact hdone ((readRegister_steady u addr).inTime_of_samePhase hu (readRegister_scanPhase u addr)
      ((Quiet.refl u).readRegister addr).activeSlots)
  · exact hdone ((writeRegister_steady u addr v).inTime_of_samePhase hu (writeRegister_scanPhase u addr v)
      ((Quiet.refl u).writeRegister addr v).activeSlots)
  · have hended (w : State) (code : Byte) (v : Word) : Steady w (w.ended code v) := .ofFrame rfl rfl rfl
    rcases exec_ends u i with ⟨code, hcode⟩ | ⟨w, v, hsucceeds, hcode⟩
    · cases hexec.symm.trans hcode
      exact hdone ((hended u _ _).inTime_of_samePhase hu rfl rfl)
    · cases hexec.symm.trans hcode
      have hframe := hsucceeds.commandFrame
      exact hdone ((hsucceeds.steady.trans (hended w _ _)).inTime_of_samePhase hu
        (congrArg State.scanPhase hframe.frame :) (congrArg BitVec.toNat hframe.noOfSats))

end EveryStep

end Sys2Proof.Machine

section TimeStatement

open Sys2Proof Sys2Proof.Machine

/-- Settles O54. -/
theorem stepKeepsShapeTimesAndCycle : Obligations.StepKeepsShapeTimesAndCycle := fun _ _ h hstep => step_inTime h hstep

end TimeStatement
